-- ==== Sys2Proof/Word.lean ====
section
/-! DEFINITION. Sys2Proof/Word.lean: the two widths of P_GB CORE (spec/00_scope.md R7): 8-bit bytes and registers, 16-bit
addresses, pairs, SP and PC. Arithmetic on them is `BitVec` arithmetic, which wraps modulo 256 and 65,536 (R10). -/

namespace Sys2Proof

/-- An 8-bit value: a byte of memory or an 8-bit register (R7). -/
abbrev Byte := BitVec 8

/-- A 16-bit value: an address, a register pair, SP or PC (R7). -/
abbrev Word := BitVec 16

end Sys2Proof
end

