-- ==== Sys2Proof/Syntax.lean ====
section
/-! DEFINITION. Sys2Proof/Syntax.lean: the instructions as syntax (spec/30_encoding.md, spec/opcode_table.json).

`Instr` has one constructor for each of the 512 rows of the opcode table. Below it, the operand designators of rules
R56 to R58 and, for each regular block of rules R60 and R61, the function from its operand designators to the row. -/

namespace Sys2Proof

/-- The 8-bit registers an r8 code other than 6 names (R56). -/
inductive R8 where
  | b | c | d | e | h | l | a
deriving DecidableEq, Repr

/-- What an r8 code names (R56): a register, or code 6, the byte at address HL. -/
inductive Operand8 where
  | reg (r : R8)
  | atHl
deriving DecidableEq, Repr

/-- The SP group of pair codes (R57): LD rr,d16, INC rr, DEC rr, ADD HL,rr. -/
inductive R16 where
  | bc | de | hl | sp
deriving DecidableEq, Repr

/-- The AF group of pair codes (R57): PUSH and POP. -/
inductive R16Stk where
  | bc | de | hl | af
deriving DecidableEq, Repr

/-- The condition codes of the conditional control transfers (R58). -/
inductive Cond where
  | nz | z | nc | c
deriving DecidableEq, Repr

/-- The eight operations of the ALU block, y = 0 to 7 (R60, R94). -/
inductive AluOp where
  | add | adc | sub | sbc | and | xor | or | cp
deriving DecidableEq, Repr

/-- The second operand of an 8-bit ALU operation (R94): an r8 operand or an immediate. -/
inductive AluSrc where
  | operand (o : Operand8)
  | imm (n : Byte)
deriving DecidableEq, Repr

/-- The eight rotate and shift operations of the secondary table, y = 0 to 7 (R61). -/
inductive RotOp where
  | rlc | rrc | rl | rr | sla | sra | swap | srl
deriving DecidableEq, Repr

/-- The eleven primary slots without an instruction (R63). -/
inductive IllegalSlot where
  | d3 | db | dd | e3 | e4 | eb | ec | ed | f4 | fc | fd
deriving DecidableEq, Repr

/-- The instructions: one constructor for each row of the opcode table. An immediate (d8, a8, e8, d16, a16), STOP's
ignored second byte and PREFIX CB's secondary opcode are arguments. The rows with an argument come first, then the
others, each group in the table's order (Lean's runtime gives constructors with arguments only the low tags). -/
inductive Instr where
  | ldBcD16 (n : Word)  -- 01  LD BC,d16
  | ldBD8 (n : Byte)  -- 06  LD B,d8
  | ldAtA16Sp (n : Word)  -- 08  LD (a16),SP
  | ldCD8 (n : Byte)  -- 0E  LD C,d8
  | stop (pad : Byte)  -- 10  STOP
  | ldDeD16 (n : Word)  -- 11  LD DE,d16
  | ldDD8 (n : Byte)  -- 16  LD D,d8
  | jrE8 (e : Byte)  -- 18  JR e8
  | ldED8 (n : Byte)  -- 1E  LD E,d8
  | jrNzE8 (e : Byte)  -- 20  JR NZ,e8
  | ldHlD16 (n : Word)  -- 21  LD HL,d16
  | ldHD8 (n : Byte)  -- 26  LD H,d8
  | jrZE8 (e : Byte)  -- 28  JR Z,e8
  | ldLD8 (n : Byte)  -- 2E  LD L,d8
  | jrNcE8 (e : Byte)  -- 30  JR NC,e8
  | ldSpD16 (n : Word)  -- 31  LD SP,d16
  | ldAtHlD8 (n : Byte)  -- 36  LD (HL),d8
  | jrCE8 (e : Byte)  -- 38  JR C,e8
  | ldAD8 (n : Byte)  -- 3E  LD A,d8
  | jpNzA16 (n : Word)  -- C2  JP NZ,a16
  | jpA16 (n : Word)  -- C3  JP a16
  | callNzA16 (n : Word)  -- C4  CALL NZ,a16
  | addAD8 (n : Byte)  -- C6  ADD A,d8
  | jpZA16 (n : Word)  -- CA  JP Z,a16
  | prefixCb (op2 : Byte)  -- CB  PREFIX CB
  | callZA16 (n : Word)  -- CC  CALL Z,a16
  | callA16 (n : Word)  -- CD  CALL a16
  | adcAD8 (n : Byte)  -- CE  ADC A,d8
  | jpNcA16 (n : Word)  -- D2  JP NC,a16
  | callNcA16 (n : Word)  -- D4  CALL NC,a16
  | subD8 (n : Byte)  -- D6  SUB d8
  | jpCA16 (n : Word)  -- DA  JP C,a16
  | callCA16 (n : Word)  -- DC  CALL C,a16
  | sbcAD8 (n : Byte)  -- DE  SBC A,d8
  | ldhAtA8A (n : Byte)  -- E0  LDH (a8),A
  | andD8 (n : Byte)  -- E6  AND d8
  | addSpE8 (e : Byte)  -- E8  ADD SP,e8
  | ldAtA16A (n : Word)  -- EA  LD (a16),A
  | xorD8 (n : Byte)  -- EE  XOR d8
  | ldhAAtA8 (n : Byte)  -- F0  LDH A,(a8)
  | orD8 (n : Byte)  -- F6  OR d8
  | ldHlSpE8 (e : Byte)  -- F8  LD HL,SP+e8
  | ldAAtA16 (n : Word)  -- FA  LD A,(a16)
  | cpD8 (n : Byte)  -- FE  CP d8
  | nop  -- 00  NOP
  | ldAtBcA  -- 02  LD (BC),A
  | incBc  -- 03  INC BC
  | incB  -- 04  INC B
  | decB  -- 05  DEC B
  | rlca  -- 07  RLCA
  | addHlBc  -- 09  ADD HL,BC
  | ldAAtBc  -- 0A  LD A,(BC)
  | decBc  -- 0B  DEC BC
  | incC  -- 0C  INC C
  | decC  -- 0D  DEC C
  | rrca  -- 0F  RRCA
  | ldAtDeA  -- 12  LD (DE),A
  | incDe  -- 13  INC DE
  | incD  -- 14  INC D
  | decD  -- 15  DEC D
  | rla  -- 17  RLA
  | addHlDe  -- 19  ADD HL,DE
  | ldAAtDe  -- 1A  LD A,(DE)
  | decDe  -- 1B  DEC DE
  | incE  -- 1C  INC E
  | decE  -- 1D  DEC E
  | rra  -- 1F  RRA
  | ldAtHlIncA  -- 22  LD (HL+),A
  | incHl  -- 23  INC HL
  | incH  -- 24  INC H
  | decH  -- 25  DEC H
  | daa  -- 27  DAA
  | addHlHl  -- 29  ADD HL,HL
  | ldAAtHlInc  -- 2A  LD A,(HL+)
  | decHl  -- 2B  DEC HL
  | incL  -- 2C  INC L
  | decL  -- 2D  DEC L
  | cpl  -- 2F  CPL
  | ldAtHlDecA  -- 32  LD (HL-),A
  | incSp  -- 33  INC SP
  | incAtHl  -- 34  INC (HL)
  | decAtHl  -- 35  DEC (HL)
  | scf  -- 37  SCF
  | addHlSp  -- 39  ADD HL,SP
  | ldAAtHlDec  -- 3A  LD A,(HL-)
  | decSp  -- 3B  DEC SP
  | incA  -- 3C  INC A
  | decA  -- 3D  DEC A
  | ccf  -- 3F  CCF
  | ldBB  -- 40  LD B,B
  | ldBC  -- 41  LD B,C
  | ldBD  -- 42  LD B,D
  | ldBE  -- 43  LD B,E
  | ldBH  -- 44  LD B,H
  | ldBL  -- 45  LD B,L
  | ldBAtHl  -- 46  LD B,(HL)
  | ldBA  -- 47  LD B,A
  | ldCB  -- 48  LD C,B
  | ldCC  -- 49  LD C,C
  | ldCD  -- 4A  LD C,D
  | ldCE  -- 4B  LD C,E
  | ldCH  -- 4C  LD C,H
  | ldCL  -- 4D  LD C,L
  | ldCAtHl  -- 4E  LD C,(HL)
  | ldCA  -- 4F  LD C,A
  | ldDB  -- 50  LD D,B
  | ldDC  -- 51  LD D,C
  | ldDD  -- 52  LD D,D
  | ldDE  -- 53  LD D,E
  | ldDH  -- 54  LD D,H
  | ldDL  -- 55  LD D,L
  | ldDAtHl  -- 56  LD D,(HL)
  | ldDA  -- 57  LD D,A
  | ldEB  -- 58  LD E,B
  | ldEC  -- 59  LD E,C
  | ldED  -- 5A  LD E,D
  | ldEE  -- 5B  LD E,E
  | ldEH  -- 5C  LD E,H
  | ldEL  -- 5D  LD E,L
  | ldEAtHl  -- 5E  LD E,(HL)
  | ldEA  -- 5F  LD E,A
  | ldHB  -- 60  LD H,B
  | ldHC  -- 61  LD H,C
  | ldHD  -- 62  LD H,D
  | ldHE  -- 63  LD H,E
  | ldHH  -- 64  LD H,H
  | ldHL  -- 65  LD H,L
  | ldHAtHl  -- 66  LD H,(HL)
  | ldHA  -- 67  LD H,A
  | ldLB  -- 68  LD L,B
  | ldLC  -- 69  LD L,C
  | ldLD  -- 6A  LD L,D
  | ldLE  -- 6B  LD L,E
  | ldLH  -- 6C  LD L,H
  | ldLL  -- 6D  LD L,L
  | ldLAtHl  -- 6E  LD L,(HL)
  | ldLA  -- 6F  LD L,A
  | ldAtHlB  -- 70  LD (HL),B
  | ldAtHlC  -- 71  LD (HL),C
  | ldAtHlD  -- 72  LD (HL),D
  | ldAtHlE  -- 73  LD (HL),E
  | ldAtHlH  -- 74  LD (HL),H
  | ldAtHlL  -- 75  LD (HL),L
  | halt  -- 76  HALT
  | ldAtHlA  -- 77  LD (HL),A
  | ldAB  -- 78  LD A,B
  | ldAC  -- 79  LD A,C
  | ldAD  -- 7A  LD A,D
  | ldAE  -- 7B  LD A,E
  | ldAH  -- 7C  LD A,H
  | ldAL  -- 7D  LD A,L
  | ldAAtHl  -- 7E  LD A,(HL)
  | ldAA  -- 7F  LD A,A
  | addAB  -- 80  ADD A,B
  | addAC  -- 81  ADD A,C
  | addAD  -- 82  ADD A,D
  | addAE  -- 83  ADD A,E
  | addAH  -- 84  ADD A,H
  | addAL  -- 85  ADD A,L
  | addAAtHl  -- 86  ADD A,(HL)
  | addAA  -- 87  ADD A,A
  | adcAB  -- 88  ADC A,B
  | adcAC  -- 89  ADC A,C
  | adcAD  -- 8A  ADC A,D
  | adcAE  -- 8B  ADC A,E
  | adcAH  -- 8C  ADC A,H
  | adcAL  -- 8D  ADC A,L
  | adcAAtHl  -- 8E  ADC A,(HL)
  | adcAA  -- 8F  ADC A,A
  | subB  -- 90  SUB B
  | subC  -- 91  SUB C
  | subD  -- 92  SUB D
  | subE  -- 93  SUB E
  | subH  -- 94  SUB H
  | subL  -- 95  SUB L
  | subAtHl  -- 96  SUB (HL)
  | subA  -- 97  SUB A
  | sbcAB  -- 98  SBC A,B
  | sbcAC  -- 99  SBC A,C
  | sbcAD  -- 9A  SBC A,D
  | sbcAE  -- 9B  SBC A,E
  | sbcAH  -- 9C  SBC A,H
  | sbcAL  -- 9D  SBC A,L
  | sbcAAtHl  -- 9E  SBC A,(HL)
  | sbcAA  -- 9F  SBC A,A
  | andB  -- A0  AND B
  | andC  -- A1  AND C
  | andD  -- A2  AND D
  | andE  -- A3  AND E
  | andH  -- A4  AND H
  | andL  -- A5  AND L
  | andAtHl  -- A6  AND (HL)
  | andA  -- A7  AND A
  | xorB  -- A8  XOR B
  | xorC  -- A9  XOR C
  | xorD  -- AA  XOR D
  | xorE  -- AB  XOR E
  | xorH  -- AC  XOR H
  | xorL  -- AD  XOR L
  | xorAtHl  -- AE  XOR (HL)
  | xorA  -- AF  XOR A
  | orB  -- B0  OR B
  | orC  -- B1  OR C
  | orD  -- B2  OR D
  | orE  -- B3  OR E
  | orH  -- B4  OR H
  | orL  -- B5  OR L
  | orAtHl  -- B6  OR (HL)
  | orA  -- B7  OR A
  | cpB  -- B8  CP B
  | cpC  -- B9  CP C
  | cpD  -- BA  CP D
  | cpE  -- BB  CP E
  | cpH  -- BC  CP H
  | cpL  -- BD  CP L
  | cpAtHl  -- BE  CP (HL)
  | cpA  -- BF  CP A
  | retNz  -- C0  RET NZ
  | popBc  -- C1  POP BC
  | pushBc  -- C5  PUSH BC
  | rst00  -- C7  RST 00H
  | retZ  -- C8  RET Z
  | ret  -- C9  RET
  | rst08  -- CF  RST 08H
  | retNc  -- D0  RET NC
  | popDe  -- D1  POP DE
  | illegalD3  -- D3  ILLEGAL_D3
  | pushDe  -- D5  PUSH DE
  | rst10  -- D7  RST 10H
  | retC  -- D8  RET C
  | reti  -- D9  RETI
  | illegalDB  -- DB  ILLEGAL_DB
  | illegalDD  -- DD  ILLEGAL_DD
  | rst18  -- DF  RST 18H
  | popHl  -- E1  POP HL
  | ldAtCA  -- E2  LD (C),A
  | illegalE3  -- E3  ILLEGAL_E3
  | illegalE4  -- E4  ILLEGAL_E4
  | pushHl  -- E5  PUSH HL
  | rst20  -- E7  RST 20H
  | jpHl  -- E9  JP HL
  | illegalEB  -- EB  ILLEGAL_EB
  | illegalEC  -- EC  ILLEGAL_EC
  | illegalED  -- ED  ILLEGAL_ED
  | rst28  -- EF  RST 28H
  | popAf  -- F1  POP AF
  | ldAAtC  -- F2  LD A,(C)
  | di  -- F3  DI
  | illegalF4  -- F4  ILLEGAL_F4
  | pushAf  -- F5  PUSH AF
  | rst30  -- F7  RST 30H
  | ldSpHl  -- F9  LD SP,HL
  | ei  -- FB  EI
  | illegalFC  -- FC  ILLEGAL_FC
  | illegalFD  -- FD  ILLEGAL_FD
  | rst38  -- FF  RST 38H
  | rlcB  -- CB 00  RLC B
  | rlcC  -- CB 01  RLC C
  | rlcD  -- CB 02  RLC D
  | rlcE  -- CB 03  RLC E
  | rlcH  -- CB 04  RLC H
  | rlcL  -- CB 05  RLC L
  | rlcAtHl  -- CB 06  RLC (HL)
  | rlcA  -- CB 07  RLC A
  | rrcB  -- CB 08  RRC B
  | rrcC  -- CB 09  RRC C
  | rrcD  -- CB 0A  RRC D
  | rrcE  -- CB 0B  RRC E
  | rrcH  -- CB 0C  RRC H
  | rrcL  -- CB 0D  RRC L
  | rrcAtHl  -- CB 0E  RRC (HL)
  | rrcA  -- CB 0F  RRC A
  | rlB  -- CB 10  RL B
  | rlC  -- CB 11  RL C
  | rlD  -- CB 12  RL D
  | rlE  -- CB 13  RL E
  | rlH  -- CB 14  RL H
  | rlL  -- CB 15  RL L
  | rlAtHl  -- CB 16  RL (HL)
  | rlA  -- CB 17  RL A
  | rrB  -- CB 18  RR B
  | rrC  -- CB 19  RR C
  | rrD  -- CB 1A  RR D
  | rrE  -- CB 1B  RR E
  | rrH  -- CB 1C  RR H
  | rrL  -- CB 1D  RR L
  | rrAtHl  -- CB 1E  RR (HL)
  | rrA  -- CB 1F  RR A
  | slaB  -- CB 20  SLA B
  | slaC  -- CB 21  SLA C
  | slaD  -- CB 22  SLA D
  | slaE  -- CB 23  SLA E
  | slaH  -- CB 24  SLA H
  | slaL  -- CB 25  SLA L
  | slaAtHl  -- CB 26  SLA (HL)
  | slaA  -- CB 27  SLA A
  | sraB  -- CB 28  SRA B
  | sraC  -- CB 29  SRA C
  | sraD  -- CB 2A  SRA D
  | sraE  -- CB 2B  SRA E
  | sraH  -- CB 2C  SRA H
  | sraL  -- CB 2D  SRA L
  | sraAtHl  -- CB 2E  SRA (HL)
  | sraA  -- CB 2F  SRA A
  | swapB  -- CB 30  SWAP B
  | swapC  -- CB 31  SWAP C
  | swapD  -- CB 32  SWAP D
  | swapE  -- CB 33  SWAP E
  | swapH  -- CB 34  SWAP H
  | swapL  -- CB 35  SWAP L
  | swapAtHl  -- CB 36  SWAP (HL)
  | swapA  -- CB 37  SWAP A
  | srlB  -- CB 38  SRL B
  | srlC  -- CB 39  SRL C
  | srlD  -- CB 3A  SRL D
  | srlE  -- CB 3B  SRL E
  | srlH  -- CB 3C  SRL H
  | srlL  -- CB 3D  SRL L
  | srlAtHl  -- CB 3E  SRL (HL)
  | srlA  -- CB 3F  SRL A
  | bit0B  -- CB 40  BIT 0,B
  | bit0C  -- CB 41  BIT 0,C
  | bit0D  -- CB 42  BIT 0,D
  | bit0E  -- CB 43  BIT 0,E
  | bit0H  -- CB 44  BIT 0,H
  | bit0L  -- CB 45  BIT 0,L
  | bit0AtHl  -- CB 46  BIT 0,(HL)
  | bit0A  -- CB 47  BIT 0,A
  | bit1B  -- CB 48  BIT 1,B
  | bit1C  -- CB 49  BIT 1,C
  | bit1D  -- CB 4A  BIT 1,D
  | bit1E  -- CB 4B  BIT 1,E
  | bit1H  -- CB 4C  BIT 1,H
  | bit1L  -- CB 4D  BIT 1,L
  | bit1AtHl  -- CB 4E  BIT 1,(HL)
  | bit1A  -- CB 4F  BIT 1,A
  | bit2B  -- CB 50  BIT 2,B
  | bit2C  -- CB 51  BIT 2,C
  | bit2D  -- CB 52  BIT 2,D
  | bit2E  -- CB 53  BIT 2,E
  | bit2H  -- CB 54  BIT 2,H
  | bit2L  -- CB 55  BIT 2,L
  | bit2AtHl  -- CB 56  BIT 2,(HL)
  | bit2A  -- CB 57  BIT 2,A
  | bit3B  -- CB 58  BIT 3,B
  | bit3C  -- CB 59  BIT 3,C
  | bit3D  -- CB 5A  BIT 3,D
  | bit3E  -- CB 5B  BIT 3,E
  | bit3H  -- CB 5C  BIT 3,H
  | bit3L  -- CB 5D  BIT 3,L
  | bit3AtHl  -- CB 5E  BIT 3,(HL)
  | bit3A  -- CB 5F  BIT 3,A
  | bit4B  -- CB 60  BIT 4,B
  | bit4C  -- CB 61  BIT 4,C
  | bit4D  -- CB 62  BIT 4,D
  | bit4E  -- CB 63  BIT 4,E
  | bit4H  -- CB 64  BIT 4,H
  | bit4L  -- CB 65  BIT 4,L
  | bit4AtHl  -- CB 66  BIT 4,(HL)
  | bit4A  -- CB 67  BIT 4,A
  | bit5B  -- CB 68  BIT 5,B
  | bit5C  -- CB 69  BIT 5,C
  | bit5D  -- CB 6A  BIT 5,D
  | bit5E  -- CB 6B  BIT 5,E
  | bit5H  -- CB 6C  BIT 5,H
  | bit5L  -- CB 6D  BIT 5,L
  | bit5AtHl  -- CB 6E  BIT 5,(HL)
  | bit5A  -- CB 6F  BIT 5,A
  | bit6B  -- CB 70  BIT 6,B
  | bit6C  -- CB 71  BIT 6,C
  | bit6D  -- CB 72  BIT 6,D
  | bit6E  -- CB 73  BIT 6,E
  | bit6H  -- CB 74  BIT 6,H
  | bit6L  -- CB 75  BIT 6,L
  | bit6AtHl  -- CB 76  BIT 6,(HL)
  | bit6A  -- CB 77  BIT 6,A
  | bit7B  -- CB 78  BIT 7,B
  | bit7C  -- CB 79  BIT 7,C
  | bit7D  -- CB 7A  BIT 7,D
  | bit7E  -- CB 7B  BIT 7,E
  | bit7H  -- CB 7C  BIT 7,H
  | bit7L  -- CB 7D  BIT 7,L
  | bit7AtHl  -- CB 7E  BIT 7,(HL)
  | bit7A  -- CB 7F  BIT 7,A
  | res0B  -- CB 80  RES 0,B
  | res0C  -- CB 81  RES 0,C
  | res0D  -- CB 82  RES 0,D
  | res0E  -- CB 83  RES 0,E
  | res0H  -- CB 84  RES 0,H
  | res0L  -- CB 85  RES 0,L
  | res0AtHl  -- CB 86  RES 0,(HL)
  | res0A  -- CB 87  RES 0,A
  | res1B  -- CB 88  RES 1,B
  | res1C  -- CB 89  RES 1,C
  | res1D  -- CB 8A  RES 1,D
  | res1E  -- CB 8B  RES 1,E
  | res1H  -- CB 8C  RES 1,H
  | res1L  -- CB 8D  RES 1,L
  | res1AtHl  -- CB 8E  RES 1,(HL)
  | res1A  -- CB 8F  RES 1,A
  | res2B  -- CB 90  RES 2,B
  | res2C  -- CB 91  RES 2,C
  | res2D  -- CB 92  RES 2,D
  | res2E  -- CB 93  RES 2,E
  | res2H  -- CB 94  RES 2,H
  | res2L  -- CB 95  RES 2,L
  | res2AtHl  -- CB 96  RES 2,(HL)
  | res2A  -- CB 97  RES 2,A
  | res3B  -- CB 98  RES 3,B
  | res3C  -- CB 99  RES 3,C
  | res3D  -- CB 9A  RES 3,D
  | res3E  -- CB 9B  RES 3,E
  | res3H  -- CB 9C  RES 3,H
  | res3L  -- CB 9D  RES 3,L
  | res3AtHl  -- CB 9E  RES 3,(HL)
  | res3A  -- CB 9F  RES 3,A
  | res4B  -- CB A0  RES 4,B
  | res4C  -- CB A1  RES 4,C
  | res4D  -- CB A2  RES 4,D
  | res4E  -- CB A3  RES 4,E
  | res4H  -- CB A4  RES 4,H
  | res4L  -- CB A5  RES 4,L
  | res4AtHl  -- CB A6  RES 4,(HL)
  | res4A  -- CB A7  RES 4,A
  | res5B  -- CB A8  RES 5,B
  | res5C  -- CB A9  RES 5,C
  | res5D  -- CB AA  RES 5,D
  | res5E  -- CB AB  RES 5,E
  | res5H  -- CB AC  RES 5,H
  | res5L  -- CB AD  RES 5,L
  | res5AtHl  -- CB AE  RES 5,(HL)
  | res5A  -- CB AF  RES 5,A
  | res6B  -- CB B0  RES 6,B
  | res6C  -- CB B1  RES 6,C
  | res6D  -- CB B2  RES 6,D
  | res6E  -- CB B3  RES 6,E
  | res6H  -- CB B4  RES 6,H
  | res6L  -- CB B5  RES 6,L
  | res6AtHl  -- CB B6  RES 6,(HL)
  | res6A  -- CB B7  RES 6,A
  | res7B  -- CB B8  RES 7,B
  | res7C  -- CB B9  RES 7,C
  | res7D  -- CB BA  RES 7,D
  | res7E  -- CB BB  RES 7,E
  | res7H  -- CB BC  RES 7,H
  | res7L  -- CB BD  RES 7,L
  | res7AtHl  -- CB BE  RES 7,(HL)
  | res7A  -- CB BF  RES 7,A
  | set0B  -- CB C0  SET 0,B
  | set0C  -- CB C1  SET 0,C
  | set0D  -- CB C2  SET 0,D
  | set0E  -- CB C3  SET 0,E
  | set0H  -- CB C4  SET 0,H
  | set0L  -- CB C5  SET 0,L
  | set0AtHl  -- CB C6  SET 0,(HL)
  | set0A  -- CB C7  SET 0,A
  | set1B  -- CB C8  SET 1,B
  | set1C  -- CB C9  SET 1,C
  | set1D  -- CB CA  SET 1,D
  | set1E  -- CB CB  SET 1,E
  | set1H  -- CB CC  SET 1,H
  | set1L  -- CB CD  SET 1,L
  | set1AtHl  -- CB CE  SET 1,(HL)
  | set1A  -- CB CF  SET 1,A
  | set2B  -- CB D0  SET 2,B
  | set2C  -- CB D1  SET 2,C
  | set2D  -- CB D2  SET 2,D
  | set2E  -- CB D3  SET 2,E
  | set2H  -- CB D4  SET 2,H
  | set2L  -- CB D5  SET 2,L
  | set2AtHl  -- CB D6  SET 2,(HL)
  | set2A  -- CB D7  SET 2,A
  | set3B  -- CB D8  SET 3,B
  | set3C  -- CB D9  SET 3,C
  | set3D  -- CB DA  SET 3,D
  | set3E  -- CB DB  SET 3,E
  | set3H  -- CB DC  SET 3,H
  | set3L  -- CB DD  SET 3,L
  | set3AtHl  -- CB DE  SET 3,(HL)
  | set3A  -- CB DF  SET 3,A
  | set4B  -- CB E0  SET 4,B
  | set4C  -- CB E1  SET 4,C
  | set4D  -- CB E2  SET 4,D
  | set4E  -- CB E3  SET 4,E
  | set4H  -- CB E4  SET 4,H
  | set4L  -- CB E5  SET 4,L
  | set4AtHl  -- CB E6  SET 4,(HL)
  | set4A  -- CB E7  SET 4,A
  | set5B  -- CB E8  SET 5,B
  | set5C  -- CB E9  SET 5,C
  | set5D  -- CB EA  SET 5,D
  | set5E  -- CB EB  SET 5,E
  | set5H  -- CB EC  SET 5,H
  | set5L  -- CB ED  SET 5,L
  | set5AtHl  -- CB EE  SET 5,(HL)
  | set5A  -- CB EF  SET 5,A
  | set6B  -- CB F0  SET 6,B
  | set6C  -- CB F1  SET 6,C
  | set6D  -- CB F2  SET 6,D
  | set6E  -- CB F3  SET 6,E
  | set6H  -- CB F4  SET 6,H
  | set6L  -- CB F5  SET 6,L
  | set6AtHl  -- CB F6  SET 6,(HL)
  | set6A  -- CB F7  SET 6,A
  | set7B  -- CB F8  SET 7,B
  | set7C  -- CB F9  SET 7,C
  | set7D  -- CB FA  SET 7,D
  | set7E  -- CB FB  SET 7,E
  | set7H  -- CB FC  SET 7,H
  | set7L  -- CB FD  SET 7,L
  | set7AtHl  -- CB FE  SET 7,(HL)
  | set7A  -- CB FF  SET 7,A
deriving DecidableEq, Repr

/-- LD r,r' (R67), opcodes 0x40 to 0x7F without z = 6 and y = 6. -/
def Instr.ldReg : R8 → R8 → Instr
  | .b, .b => .ldBB
  | .b, .c => .ldBC
  | .b, .d => .ldBD
  | .b, .e => .ldBE
  | .b, .h => .ldBH
  | .b, .l => .ldBL
  | .b, .a => .ldBA
  | .c, .b => .ldCB
  | .c, .c => .ldCC
  | .c, .d => .ldCD
  | .c, .e => .ldCE
  | .c, .h => .ldCH
  | .c, .l => .ldCL
  | .c, .a => .ldCA
  | .d, .b => .ldDB
  | .d, .c => .ldDC
  | .d, .d => .ldDD
  | .d, .e => .ldDE
  | .d, .h => .ldDH
  | .d, .l => .ldDL
  | .d, .a => .ldDA
  | .e, .b => .ldEB
  | .e, .c => .ldEC
  | .e, .d => .ldED
  | .e, .e => .ldEE
  | .e, .h => .ldEH
  | .e, .l => .ldEL
  | .e, .a => .ldEA
  | .h, .b => .ldHB
  | .h, .c => .ldHC
  | .h, .d => .ldHD
  | .h, .e => .ldHE
  | .h, .h => .ldHH
  | .h, .l => .ldHL
  | .h, .a => .ldHA
  | .l, .b => .ldLB
  | .l, .c => .ldLC
  | .l, .d => .ldLD
  | .l, .e => .ldLE
  | .l, .h => .ldLH
  | .l, .l => .ldLL
  | .l, .a => .ldLA
  | .a, .b => .ldAB
  | .a, .c => .ldAC
  | .a, .d => .ldAD
  | .a, .e => .ldAE
  | .a, .h => .ldAH
  | .a, .l => .ldAL
  | .a, .a => .ldAA

/-- LD r,d8 (R68). -/
def Instr.ldRegImm : R8 → Byte → Instr
  | .b, n => .ldBD8 n
  | .c, n => .ldCD8 n
  | .d, n => .ldDD8 n
  | .e, n => .ldED8 n
  | .h, n => .ldHD8 n
  | .l, n => .ldLD8 n
  | .a, n => .ldAD8 n

/-- LD r,(HL) (R69). -/
def Instr.ldRegAtHl : R8 → Instr
  | .b => .ldBAtHl
  | .c => .ldCAtHl
  | .d => .ldDAtHl
  | .e => .ldEAtHl
  | .h => .ldHAtHl
  | .l => .ldLAtHl
  | .a => .ldAAtHl

/-- LD (HL),r (R70). -/
def Instr.ldAtHlReg : R8 → Instr
  | .b => .ldAtHlB
  | .c => .ldAtHlC
  | .d => .ldAtHlD
  | .e => .ldAtHlE
  | .h => .ldAtHlH
  | .l => .ldAtHlL
  | .a => .ldAtHlA

/-- LD rr,d16 (R88). -/
def Instr.ldPair : R16 → Word → Instr
  | .bc, n => .ldBcD16 n
  | .de, n => .ldDeD16 n
  | .hl, n => .ldHlD16 n
  | .sp, n => .ldSpD16 n

/-- PUSH rr (R91). -/
def Instr.push : R16Stk → Instr
  | .bc => .pushBc
  | .de => .pushDe
  | .hl => .pushHl
  | .af => .pushAf

/-- POP rr and POP AF (R92, R93). -/
def Instr.pop : R16Stk → Instr
  | .bc => .popBc
  | .de => .popDe
  | .hl => .popHl
  | .af => .popAf

/-- The 8-bit ALU block (R94): operation by second operand. -/
def Instr.alu : AluOp → AluSrc → Instr
  | .add, .operand (.reg .b) => .addAB
  | .add, .operand (.reg .c) => .addAC
  | .add, .operand (.reg .d) => .addAD
  | .add, .operand (.reg .e) => .addAE
  | .add, .operand (.reg .h) => .addAH
  | .add, .operand (.reg .l) => .addAL
  | .add, .operand .atHl => .addAAtHl
  | .add, .operand (.reg .a) => .addAA
  | .adc, .operand (.reg .b) => .adcAB
  | .adc, .operand (.reg .c) => .adcAC
  | .adc, .operand (.reg .d) => .adcAD
  | .adc, .operand (.reg .e) => .adcAE
  | .adc, .operand (.reg .h) => .adcAH
  | .adc, .operand (.reg .l) => .adcAL
  | .adc, .operand .atHl => .adcAAtHl
  | .adc, .operand (.reg .a) => .adcAA
  | .sub, .operand (.reg .b) => .subB
  | .sub, .operand (.reg .c) => .subC
  | .sub, .operand (.reg .d) => .subD
  | .sub, .operand (.reg .e) => .subE
  | .sub, .operand (.reg .h) => .subH
  | .sub, .operand (.reg .l) => .subL
  | .sub, .operand .atHl => .subAtHl
  | .sub, .operand (.reg .a) => .subA
  | .sbc, .operand (.reg .b) => .sbcAB
  | .sbc, .operand (.reg .c) => .sbcAC
  | .sbc, .operand (.reg .d) => .sbcAD
  | .sbc, .operand (.reg .e) => .sbcAE
  | .sbc, .operand (.reg .h) => .sbcAH
  | .sbc, .operand (.reg .l) => .sbcAL
  | .sbc, .operand .atHl => .sbcAAtHl
  | .sbc, .operand (.reg .a) => .sbcAA
  | .and, .operand (.reg .b) => .andB
  | .and, .operand (.reg .c) => .andC
  | .and, .operand (.reg .d) => .andD
  | .and, .operand (.reg .e) => .andE
  | .and, .operand (.reg .h) => .andH
  | .and, .operand (.reg .l) => .andL
  | .and, .operand .atHl => .andAtHl
  | .and, .operand (.reg .a) => .andA
  | .xor, .operand (.reg .b) => .xorB
  | .xor, .operand (.reg .c) => .xorC
  | .xor, .operand (.reg .d) => .xorD
  | .xor, .operand (.reg .e) => .xorE
  | .xor, .operand (.reg .h) => .xorH
  | .xor, .operand (.reg .l) => .xorL
  | .xor, .operand .atHl => .xorAtHl
  | .xor, .operand (.reg .a) => .xorA
  | .or, .operand (.reg .b) => .orB
  | .or, .operand (.reg .c) => .orC
  | .or, .operand (.reg .d) => .orD
  | .or, .operand (.reg .e) => .orE
  | .or, .operand (.reg .h) => .orH
  | .or, .operand (.reg .l) => .orL
  | .or, .operand .atHl => .orAtHl
  | .or, .operand (.reg .a) => .orA
  | .cp, .operand (.reg .b) => .cpB
  | .cp, .operand (.reg .c) => .cpC
  | .cp, .operand (.reg .d) => .cpD
  | .cp, .operand (.reg .e) => .cpE
  | .cp, .operand (.reg .h) => .cpH
  | .cp, .operand (.reg .l) => .cpL
  | .cp, .operand .atHl => .cpAtHl
  | .cp, .operand (.reg .a) => .cpA
  | .add, .imm n => .addAD8 n
  | .adc, .imm n => .adcAD8 n
  | .sub, .imm n => .subD8 n
  | .sbc, .imm n => .sbcAD8 n
  | .and, .imm n => .andD8 n
  | .xor, .imm n => .xorD8 n
  | .or, .imm n => .orD8 n
  | .cp, .imm n => .cpD8 n

/-- INC r and INC (HL) (R127, R128). -/
def Instr.inc8 : Operand8 → Instr
  | .reg .b => .incB
  | .reg .c => .incC
  | .reg .d => .incD
  | .reg .e => .incE
  | .reg .h => .incH
  | .reg .l => .incL
  | .atHl => .incAtHl
  | .reg .a => .incA

/-- DEC r and DEC (HL) (R129, R130). -/
def Instr.dec8 : Operand8 → Instr
  | .reg .b => .decB
  | .reg .c => .decC
  | .reg .d => .decD
  | .reg .e => .decE
  | .reg .h => .decH
  | .reg .l => .decL
  | .atHl => .decAtHl
  | .reg .a => .decA

/-- ADD HL,rr (R135). -/
def Instr.addHl : R16 → Instr
  | .bc => .addHlBc
  | .de => .addHlDe
  | .hl => .addHlHl
  | .sp => .addHlSp

/-- INC rr (R136). -/
def Instr.incPair : R16 → Instr
  | .bc => .incBc
  | .de => .incDe
  | .hl => .incHl
  | .sp => .incSp

/-- DEC rr (R137). -/
def Instr.decPair : R16 → Instr
  | .bc => .decBc
  | .de => .decDe
  | .hl => .decHl
  | .sp => .decSp

/-- The secondary rotate and shift block, x = 0 (R61). -/
def Instr.rot : RotOp → Operand8 → Instr
  | .rlc, .reg .b => .rlcB
  | .rlc, .reg .c => .rlcC
  | .rlc, .reg .d => .rlcD
  | .rlc, .reg .e => .rlcE
  | .rlc, .reg .h => .rlcH
  | .rlc, .reg .l => .rlcL
  | .rlc, .atHl => .rlcAtHl
  | .rlc, .reg .a => .rlcA
  | .rrc, .reg .b => .rrcB
  | .rrc, .reg .c => .rrcC
  | .rrc, .reg .d => .rrcD
  | .rrc, .reg .e => .rrcE
  | .rrc, .reg .h => .rrcH
  | .rrc, .reg .l => .rrcL
  | .rrc, .atHl => .rrcAtHl
  | .rrc, .reg .a => .rrcA
  | .rl, .reg .b => .rlB
  | .rl, .reg .c => .rlC
  | .rl, .reg .d => .rlD
  | .rl, .reg .e => .rlE
  | .rl, .reg .h => .rlH
  | .rl, .reg .l => .rlL
  | .rl, .atHl => .rlAtHl
  | .rl, .reg .a => .rlA
  | .rr, .reg .b => .rrB
  | .rr, .reg .c => .rrC
  | .rr, .reg .d => .rrD
  | .rr, .reg .e => .rrE
  | .rr, .reg .h => .rrH
  | .rr, .reg .l => .rrL
  | .rr, .atHl => .rrAtHl
  | .rr, .reg .a => .rrA
  | .sla, .reg .b => .slaB
  | .sla, .reg .c => .slaC
  | .sla, .reg .d => .slaD
  | .sla, .reg .e => .slaE
  | .sla, .reg .h => .slaH
  | .sla, .reg .l => .slaL
  | .sla, .atHl => .slaAtHl
  | .sla, .reg .a => .slaA
  | .sra, .reg .b => .sraB
  | .sra, .reg .c => .sraC
  | .sra, .reg .d => .sraD
  | .sra, .reg .e => .sraE
  | .sra, .reg .h => .sraH
  | .sra, .reg .l => .sraL
  | .sra, .atHl => .sraAtHl
  | .sra, .reg .a => .sraA
  | .swap, .reg .b => .swapB
  | .swap, .reg .c => .swapC
  | .swap, .reg .d => .swapD
  | .swap, .reg .e => .swapE
  | .swap, .reg .h => .swapH
  | .swap, .reg .l => .swapL
  | .swap, .atHl => .swapAtHl
  | .swap, .reg .a => .swapA
  | .srl, .reg .b => .srlB
  | .srl, .reg .c => .srlC
  | .srl, .reg .d => .srlD
  | .srl, .reg .e => .srlE
  | .srl, .reg .h => .srlH
  | .srl, .reg .l => .srlL
  | .srl, .atHl => .srlAtHl
  | .srl, .reg .a => .srlA

/-- BIT b,r and BIT b,(HL), x = 1 (R169, R170). -/
def Instr.bitTest : Fin 8 → Operand8 → Instr
  | 0, .reg .b => .bit0B
  | 0, .reg .c => .bit0C
  | 0, .reg .d => .bit0D
  | 0, .reg .e => .bit0E
  | 0, .reg .h => .bit0H
  | 0, .reg .l => .bit0L
  | 0, .atHl => .bit0AtHl
  | 0, .reg .a => .bit0A
  | 1, .reg .b => .bit1B
  | 1, .reg .c => .bit1C
  | 1, .reg .d => .bit1D
  | 1, .reg .e => .bit1E
  | 1, .reg .h => .bit1H
  | 1, .reg .l => .bit1L
  | 1, .atHl => .bit1AtHl
  | 1, .reg .a => .bit1A
  | 2, .reg .b => .bit2B
  | 2, .reg .c => .bit2C
  | 2, .reg .d => .bit2D
  | 2, .reg .e => .bit2E
  | 2, .reg .h => .bit2H
  | 2, .reg .l => .bit2L
  | 2, .atHl => .bit2AtHl
  | 2, .reg .a => .bit2A
  | 3, .reg .b => .bit3B
  | 3, .reg .c => .bit3C
  | 3, .reg .d => .bit3D
  | 3, .reg .e => .bit3E
  | 3, .reg .h => .bit3H
  | 3, .reg .l => .bit3L
  | 3, .atHl => .bit3AtHl
  | 3, .reg .a => .bit3A
  | 4, .reg .b => .bit4B
  | 4, .reg .c => .bit4C
  | 4, .reg .d => .bit4D
  | 4, .reg .e => .bit4E
  | 4, .reg .h => .bit4H
  | 4, .reg .l => .bit4L
  | 4, .atHl => .bit4AtHl
  | 4, .reg .a => .bit4A
  | 5, .reg .b => .bit5B
  | 5, .reg .c => .bit5C
  | 5, .reg .d => .bit5D
  | 5, .reg .e => .bit5E
  | 5, .reg .h => .bit5H
  | 5, .reg .l => .bit5L
  | 5, .atHl => .bit5AtHl
  | 5, .reg .a => .bit5A
  | 6, .reg .b => .bit6B
  | 6, .reg .c => .bit6C
  | 6, .reg .d => .bit6D
  | 6, .reg .e => .bit6E
  | 6, .reg .h => .bit6H
  | 6, .reg .l => .bit6L
  | 6, .atHl => .bit6AtHl
  | 6, .reg .a => .bit6A
  | 7, .reg .b => .bit7B
  | 7, .reg .c => .bit7C
  | 7, .reg .d => .bit7D
  | 7, .reg .e => .bit7E
  | 7, .reg .h => .bit7H
  | 7, .reg .l => .bit7L
  | 7, .atHl => .bit7AtHl
  | 7, .reg .a => .bit7A

/-- RES b,r and RES b,(HL), x = 2 (R171, R172). -/
def Instr.bitRes : Fin 8 → Operand8 → Instr
  | 0, .reg .b => .res0B
  | 0, .reg .c => .res0C
  | 0, .reg .d => .res0D
  | 0, .reg .e => .res0E
  | 0, .reg .h => .res0H
  | 0, .reg .l => .res0L
  | 0, .atHl => .res0AtHl
  | 0, .reg .a => .res0A
  | 1, .reg .b => .res1B
  | 1, .reg .c => .res1C
  | 1, .reg .d => .res1D
  | 1, .reg .e => .res1E
  | 1, .reg .h => .res1H
  | 1, .reg .l => .res1L
  | 1, .atHl => .res1AtHl
  | 1, .reg .a => .res1A
  | 2, .reg .b => .res2B
  | 2, .reg .c => .res2C
  | 2, .reg .d => .res2D
  | 2, .reg .e => .res2E
  | 2, .reg .h => .res2H
  | 2, .reg .l => .res2L
  | 2, .atHl => .res2AtHl
  | 2, .reg .a => .res2A
  | 3, .reg .b => .res3B
  | 3, .reg .c => .res3C
  | 3, .reg .d => .res3D
  | 3, .reg .e => .res3E
  | 3, .reg .h => .res3H
  | 3, .reg .l => .res3L
  | 3, .atHl => .res3AtHl
  | 3, .reg .a => .res3A
  | 4, .reg .b => .res4B
  | 4, .reg .c => .res4C
  | 4, .reg .d => .res4D
  | 4, .reg .e => .res4E
  | 4, .reg .h => .res4H
  | 4, .reg .l => .res4L
  | 4, .atHl => .res4AtHl
  | 4, .reg .a => .res4A
  | 5, .reg .b => .res5B
  | 5, .reg .c => .res5C
  | 5, .reg .d => .res5D
  | 5, .reg .e => .res5E
  | 5, .reg .h => .res5H
  | 5, .reg .l => .res5L
  | 5, .atHl => .res5AtHl
  | 5, .reg .a => .res5A
  | 6, .reg .b => .res6B
  | 6, .reg .c => .res6C
  | 6, .reg .d => .res6D
  | 6, .reg .e => .res6E
  | 6, .reg .h => .res6H
  | 6, .reg .l => .res6L
  | 6, .atHl => .res6AtHl
  | 6, .reg .a => .res6A
  | 7, .reg .b => .res7B
  | 7, .reg .c => .res7C
  | 7, .reg .d => .res7D
  | 7, .reg .e => .res7E
  | 7, .reg .h => .res7H
  | 7, .reg .l => .res7L
  | 7, .atHl => .res7AtHl
  | 7, .reg .a => .res7A

/-- SET b,r and SET b,(HL), x = 3 (R173, R174). -/
def Instr.bitSet : Fin 8 → Operand8 → Instr
  | 0, .reg .b => .set0B
  | 0, .reg .c => .set0C
  | 0, .reg .d => .set0D
  | 0, .reg .e => .set0E
  | 0, .reg .h => .set0H
  | 0, .reg .l => .set0L
  | 0, .atHl => .set0AtHl
  | 0, .reg .a => .set0A
  | 1, .reg .b => .set1B
  | 1, .reg .c => .set1C
  | 1, .reg .d => .set1D
  | 1, .reg .e => .set1E
  | 1, .reg .h => .set1H
  | 1, .reg .l => .set1L
  | 1, .atHl => .set1AtHl
  | 1, .reg .a => .set1A
  | 2, .reg .b => .set2B
  | 2, .reg .c => .set2C
  | 2, .reg .d => .set2D
  | 2, .reg .e => .set2E
  | 2, .reg .h => .set2H
  | 2, .reg .l => .set2L
  | 2, .atHl => .set2AtHl
  | 2, .reg .a => .set2A
  | 3, .reg .b => .set3B
  | 3, .reg .c => .set3C
  | 3, .reg .d => .set3D
  | 3, .reg .e => .set3E
  | 3, .reg .h => .set3H
  | 3, .reg .l => .set3L
  | 3, .atHl => .set3AtHl
  | 3, .reg .a => .set3A
  | 4, .reg .b => .set4B
  | 4, .reg .c => .set4C
  | 4, .reg .d => .set4D
  | 4, .reg .e => .set4E
  | 4, .reg .h => .set4H
  | 4, .reg .l => .set4L
  | 4, .atHl => .set4AtHl
  | 4, .reg .a => .set4A
  | 5, .reg .b => .set5B
  | 5, .reg .c => .set5C
  | 5, .reg .d => .set5D
  | 5, .reg .e => .set5E
  | 5, .reg .h => .set5H
  | 5, .reg .l => .set5L
  | 5, .atHl => .set5AtHl
  | 5, .reg .a => .set5A
  | 6, .reg .b => .set6B
  | 6, .reg .c => .set6C
  | 6, .reg .d => .set6D
  | 6, .reg .e => .set6E
  | 6, .reg .h => .set6H
  | 6, .reg .l => .set6L
  | 6, .atHl => .set6AtHl
  | 6, .reg .a => .set6A
  | 7, .reg .b => .set7B
  | 7, .reg .c => .set7C
  | 7, .reg .d => .set7D
  | 7, .reg .e => .set7E
  | 7, .reg .h => .set7H
  | 7, .reg .l => .set7L
  | 7, .atHl => .set7AtHl
  | 7, .reg .a => .set7A

/-- JP cc,a16 (R176). -/
def Instr.jpCond : Cond → Word → Instr
  | .nz, n => .jpNzA16 n
  | .z, n => .jpZA16 n
  | .nc, n => .jpNcA16 n
  | .c, n => .jpCA16 n

/-- JR cc,e8 (R179). -/
def Instr.jrCond : Cond → Byte → Instr
  | .nz, e => .jrNzE8 e
  | .z, e => .jrZE8 e
  | .nc, e => .jrNcE8 e
  | .c, e => .jrCE8 e

/-- CALL cc,a16 (R181). -/
def Instr.callCond : Cond → Word → Instr
  | .nz, n => .callNzA16 n
  | .z, n => .callZA16 n
  | .nc, n => .callNcA16 n
  | .c, n => .callCA16 n

/-- RET cc (R184). -/
def Instr.retCond : Cond → Instr
  | .nz => .retNz
  | .z => .retZ
  | .nc => .retNc
  | .c => .retC

/-- RST t, the target numbered by opcode bits 5..3 (R182). -/
def Instr.rst : Fin 8 → Instr
  | 0 => .rst00
  | 1 => .rst08
  | 2 => .rst10
  | 3 => .rst18
  | 4 => .rst20
  | 5 => .rst28
  | 6 => .rst30
  | 7 => .rst38

/-- The row of an illegal slot (R63). -/
def Instr.illegal : IllegalSlot → Instr
  | .d3 => .illegalD3
  | .db => .illegalDB
  | .dd => .illegalDD
  | .e3 => .illegalE3
  | .e4 => .illegalE4
  | .eb => .illegalEB
  | .ec => .illegalEC
  | .ed => .illegalED
  | .f4 => .illegalF4
  | .fc => .illegalFC
  | .fd => .illegalFD

/-- The opcode byte of an illegal slot (R63). -/
def IllegalSlot.opcode : IllegalSlot → Byte
  | .d3 => 0xD3
  | .db => 0xDB
  | .dd => 0xDD
  | .e3 => 0xE3
  | .e4 => 0xE4
  | .eb => 0xEB
  | .ec => 0xEC
  | .ed => 0xED
  | .f4 => 0xF4
  | .fc => 0xFC
  | .fd => 0xFD

end Sys2Proof
end

