-- ==== Sys2Proof/WellFormed.lean ====
section
/-! DEFINITION. Sys2Proof/WellFormed.lean: which instruction terms stand for whole instructions (spec/30_encoding.md).

Every operand field of `Instr` has exactly the width of its encoding, so no operand can be out of range. The one check
left is the escape: 0xCB alone is no instruction, and the two bytes 0xCB, op2 are the secondary instruction of op2
(R54, R193), which has a constructor of its own. -/

namespace Sys2Proof

/-- The term is the PREFIX CB row, the escape to the secondary table (R193). -/
def Instr.isEscape : Instr → Bool
  | .prefixCb _ => true
  | _ => false

/-- The term is what its own bytes decode to: it is not the escape row. -/
def Instr.wellFormed (i : Instr) : Bool := !i.isEscape

end Sys2Proof
end

