-- ==== Sys2Proof/Decode.lean ====
section
/-! DEFINITION. Sys2Proof/Decode.lean: decoding and encoding (spec/30_encoding.md). The two opcode maps of rules R60 and
R61 are written as the spec prints them, sixteen rows of sixteen; the encoder gives each row the bytes of its `match`
column in spec/opcode_table.json. Decoding is total on any bytes; only a list that ends inside an instruction is
rejected, by name. -/

namespace Sys2Proof

/-- The 16-bit value with low byte `lo` and high byte `hi` (R46, R59). -/
def wordOf (lo hi : Byte) : Word := hi ++ lo

/-- Bits 7..0 of a 16-bit value. -/
def loByte (w : Word) : Byte := w.extractLsb' 0 8

/-- Bits 15..8 of a 16-bit value. -/
def hiByte (w : Word) : Byte := w.extractLsb' 8 8

/-- What the primary table holds for an opcode byte (R54, R60): an instruction without immediate, one with one
immediate byte, one with a 16-bit immediate, or the escape to the secondary table. -/
inductive Slot where
  | op (i : Instr)
  | n8 (f : Byte → Instr)
  | n16 (f : Word → Instr)
  | escape

/-- Instruction length in bytes (R54, R55): fixed by the first byte alone. -/
def Slot.length : Slot → Nat
  | .op _ => 1
  | .n8 _ => 2
  | .n16 _ => 3
  | .escape => 2

/-- Row 0x of the primary opcode map (R60). -/
def primaryRow0 : Vector Slot 16 :=
  #v[.op .nop, .n16 .ldBcD16, .op .ldAtBcA, .op .incBc,
     .op .incB, .op .decB, .n8 .ldBD8, .op .rlca,
     .n16 .ldAtA16Sp, .op .addHlBc, .op .ldAAtBc, .op .decBc,
     .op .incC, .op .decC, .n8 .ldCD8, .op .rrca]

/-- Row 1x of the primary opcode map (R60). -/
def primaryRow1 : Vector Slot 16 :=
  #v[.n8 .stop, .n16 .ldDeD16, .op .ldAtDeA, .op .incDe,
     .op .incD, .op .decD, .n8 .ldDD8, .op .rla,
     .n8 .jrE8, .op .addHlDe, .op .ldAAtDe, .op .decDe,
     .op .incE, .op .decE, .n8 .ldED8, .op .rra]

/-- Row 2x of the primary opcode map (R60). -/
def primaryRow2 : Vector Slot 16 :=
  #v[.n8 .jrNzE8, .n16 .ldHlD16, .op .ldAtHlIncA, .op .incHl,
     .op .incH, .op .decH, .n8 .ldHD8, .op .daa,
     .n8 .jrZE8, .op .addHlHl, .op .ldAAtHlInc, .op .decHl,
     .op .incL, .op .decL, .n8 .ldLD8, .op .cpl]

/-- Row 3x of the primary opcode map (R60). -/
def primaryRow3 : Vector Slot 16 :=
  #v[.n8 .jrNcE8, .n16 .ldSpD16, .op .ldAtHlDecA, .op .incSp,
     .op .incAtHl, .op .decAtHl, .n8 .ldAtHlD8, .op .scf,
     .n8 .jrCE8, .op .addHlSp, .op .ldAAtHlDec, .op .decSp,
     .op .incA, .op .decA, .n8 .ldAD8, .op .ccf]

/-- Row 4x of the primary opcode map (R60). -/
def primaryRow4 : Vector Slot 16 :=
  #v[.op .ldBB, .op .ldBC, .op .ldBD, .op .ldBE,
     .op .ldBH, .op .ldBL, .op .ldBAtHl, .op .ldBA,
     .op .ldCB, .op .ldCC, .op .ldCD, .op .ldCE,
     .op .ldCH, .op .ldCL, .op .ldCAtHl, .op .ldCA]

/-- Row 5x of the primary opcode map (R60). -/
def primaryRow5 : Vector Slot 16 :=
  #v[.op .ldDB, .op .ldDC, .op .ldDD, .op .ldDE,
     .op .ldDH, .op .ldDL, .op .ldDAtHl, .op .ldDA,
     .op .ldEB, .op .ldEC, .op .ldED, .op .ldEE,
     .op .ldEH, .op .ldEL, .op .ldEAtHl, .op .ldEA]

/-- Row 6x of the primary opcode map (R60). -/
def primaryRow6 : Vector Slot 16 :=
  #v[.op .ldHB, .op .ldHC, .op .ldHD, .op .ldHE,
     .op .ldHH, .op .ldHL, .op .ldHAtHl, .op .ldHA,
     .op .ldLB, .op .ldLC, .op .ldLD, .op .ldLE,
     .op .ldLH, .op .ldLL, .op .ldLAtHl, .op .ldLA]

/-- Row 7x of the primary opcode map (R60). -/
def primaryRow7 : Vector Slot 16 :=
  #v[.op .ldAtHlB, .op .ldAtHlC, .op .ldAtHlD, .op .ldAtHlE,
     .op .ldAtHlH, .op .ldAtHlL, .op .halt, .op .ldAtHlA,
     .op .ldAB, .op .ldAC, .op .ldAD, .op .ldAE,
     .op .ldAH, .op .ldAL, .op .ldAAtHl, .op .ldAA]

/-- Row 8x of the primary opcode map (R60). -/
def primaryRow8 : Vector Slot 16 :=
  #v[.op .addAB, .op .addAC, .op .addAD, .op .addAE,
     .op .addAH, .op .addAL, .op .addAAtHl, .op .addAA,
     .op .adcAB, .op .adcAC, .op .adcAD, .op .adcAE,
     .op .adcAH, .op .adcAL, .op .adcAAtHl, .op .adcAA]

/-- Row 9x of the primary opcode map (R60). -/
def primaryRow9 : Vector Slot 16 :=
  #v[.op .subB, .op .subC, .op .subD, .op .subE,
     .op .subH, .op .subL, .op .subAtHl, .op .subA,
     .op .sbcAB, .op .sbcAC, .op .sbcAD, .op .sbcAE,
     .op .sbcAH, .op .sbcAL, .op .sbcAAtHl, .op .sbcAA]

/-- Row Ax of the primary opcode map (R60). -/
def primaryRowA : Vector Slot 16 :=
  #v[.op .andB, .op .andC, .op .andD, .op .andE,
     .op .andH, .op .andL, .op .andAtHl, .op .andA,
     .op .xorB, .op .xorC, .op .xorD, .op .xorE,
     .op .xorH, .op .xorL, .op .xorAtHl, .op .xorA]

/-- Row Bx of the primary opcode map (R60). -/
def primaryRowB : Vector Slot 16 :=
  #v[.op .orB, .op .orC, .op .orD, .op .orE,
     .op .orH, .op .orL, .op .orAtHl, .op .orA,
     .op .cpB, .op .cpC, .op .cpD, .op .cpE,
     .op .cpH, .op .cpL, .op .cpAtHl, .op .cpA]

/-- Row Cx of the primary opcode map (R60). -/
def primaryRowC : Vector Slot 16 :=
  #v[.op .retNz, .op .popBc, .n16 .jpNzA16, .n16 .jpA16,
     .n16 .callNzA16, .op .pushBc, .n8 .addAD8, .op .rst00,
     .op .retZ, .op .ret, .n16 .jpZA16, .escape,
     .n16 .callZA16, .n16 .callA16, .n8 .adcAD8, .op .rst08]

/-- Row Dx of the primary opcode map (R60). -/
def primaryRowD : Vector Slot 16 :=
  #v[.op .retNc, .op .popDe, .n16 .jpNcA16, .op .illegalD3,
     .n16 .callNcA16, .op .pushDe, .n8 .subD8, .op .rst10,
     .op .retC, .op .reti, .n16 .jpCA16, .op .illegalDB,
     .n16 .callCA16, .op .illegalDD, .n8 .sbcAD8, .op .rst18]

/-- Row Ex of the primary opcode map (R60). -/
def primaryRowE : Vector Slot 16 :=
  #v[.n8 .ldhAtA8A, .op .popHl, .op .ldAtCA, .op .illegalE3,
     .op .illegalE4, .op .pushHl, .n8 .andD8, .op .rst20,
     .n8 .addSpE8, .op .jpHl, .n16 .ldAtA16A, .op .illegalEB,
     .op .illegalEC, .op .illegalED, .n8 .xorD8, .op .rst28]

/-- Row Fx of the primary opcode map (R60). -/
def primaryRowF : Vector Slot 16 :=
  #v[.n8 .ldhAAtA8, .op .popAf, .op .ldAAtC, .op .di,
     .op .illegalF4, .op .pushAf, .n8 .orD8, .op .rst30,
     .n8 .ldHlSpE8, .op .ldSpHl, .n16 .ldAAtA16, .op .ei,
     .op .illegalFC, .op .illegalFD, .n8 .cpD8, .op .rst38]

/-- The primary opcode map (R60): row the high nibble, column the low nibble of the first byte. -/
def primaryMap : Vector (Vector Slot 16) 16 :=
  #v[primaryRow0, primaryRow1, primaryRow2, primaryRow3,
     primaryRow4, primaryRow5, primaryRow6, primaryRow7,
     primaryRow8, primaryRow9, primaryRowA, primaryRowB,
     primaryRowC, primaryRowD, primaryRowE, primaryRowF]

/-- Row 0x of the secondary opcode map (R61). -/
def secondaryRow0 : Vector Instr 16 :=
  #v[.rlcB, .rlcC, .rlcD, .rlcE, .rlcH, .rlcL, .rlcAtHl, .rlcA,
     .rrcB, .rrcC, .rrcD, .rrcE, .rrcH, .rrcL, .rrcAtHl, .rrcA]

/-- Row 1x of the secondary opcode map (R61). -/
def secondaryRow1 : Vector Instr 16 :=
  #v[.rlB, .rlC, .rlD, .rlE, .rlH, .rlL, .rlAtHl, .rlA,
     .rrB, .rrC, .rrD, .rrE, .rrH, .rrL, .rrAtHl, .rrA]

/-- Row 2x of the secondary opcode map (R61). -/
def secondaryRow2 : Vector Instr 16 :=
  #v[.slaB, .slaC, .slaD, .slaE, .slaH, .slaL, .slaAtHl, .slaA,
     .sraB, .sraC, .sraD, .sraE, .sraH, .sraL, .sraAtHl, .sraA]

/-- Row 3x of the secondary opcode map (R61). -/
def secondaryRow3 : Vector Instr 16 :=
  #v[.swapB, .swapC, .swapD, .swapE, .swapH, .swapL, .swapAtHl, .swapA,
     .srlB, .srlC, .srlD, .srlE, .srlH, .srlL, .srlAtHl, .srlA]

/-- Row 4x of the secondary opcode map (R61). -/
def secondaryRow4 : Vector Instr 16 :=
  #v[.bit0B, .bit0C, .bit0D, .bit0E, .bit0H, .bit0L, .bit0AtHl, .bit0A,
     .bit1B, .bit1C, .bit1D, .bit1E, .bit1H, .bit1L, .bit1AtHl, .bit1A]

/-- Row 5x of the secondary opcode map (R61). -/
def secondaryRow5 : Vector Instr 16 :=
  #v[.bit2B, .bit2C, .bit2D, .bit2E, .bit2H, .bit2L, .bit2AtHl, .bit2A,
     .bit3B, .bit3C, .bit3D, .bit3E, .bit3H, .bit3L, .bit3AtHl, .bit3A]

/-- Row 6x of the secondary opcode map (R61). -/
def secondaryRow6 : Vector Instr 16 :=
  #v[.bit4B, .bit4C, .bit4D, .bit4E, .bit4H, .bit4L, .bit4AtHl, .bit4A,
     .bit5B, .bit5C, .bit5D, .bit5E, .bit5H, .bit5L, .bit5AtHl, .bit5A]

/-- Row 7x of the secondary opcode map (R61). -/
def secondaryRow7 : Vector Instr 16 :=
  #v[.bit6B, .bit6C, .bit6D, .bit6E, .bit6H, .bit6L, .bit6AtHl, .bit6A,
     .bit7B, .bit7C, .bit7D, .bit7E, .bit7H, .bit7L, .bit7AtHl, .bit7A]

/-- Row 8x of the secondary opcode map (R61). -/
def secondaryRow8 : Vector Instr 16 :=
  #v[.res0B, .res0C, .res0D, .res0E, .res0H, .res0L, .res0AtHl, .res0A,
     .res1B, .res1C, .res1D, .res1E, .res1H, .res1L, .res1AtHl, .res1A]

/-- Row 9x of the secondary opcode map (R61). -/
def secondaryRow9 : Vector Instr 16 :=
  #v[.res2B, .res2C, .res2D, .res2E, .res2H, .res2L, .res2AtHl, .res2A,
     .res3B, .res3C, .res3D, .res3E, .res3H, .res3L, .res3AtHl, .res3A]

/-- Row Ax of the secondary opcode map (R61). -/
def secondaryRowA : Vector Instr 16 :=
  #v[.res4B, .res4C, .res4D, .res4E, .res4H, .res4L, .res4AtHl, .res4A,
     .res5B, .res5C, .res5D, .res5E, .res5H, .res5L, .res5AtHl, .res5A]

/-- Row Bx of the secondary opcode map (R61). -/
def secondaryRowB : Vector Instr 16 :=
  #v[.res6B, .res6C, .res6D, .res6E, .res6H, .res6L, .res6AtHl, .res6A,
     .res7B, .res7C, .res7D, .res7E, .res7H, .res7L, .res7AtHl, .res7A]

/-- Row Cx of the secondary opcode map (R61). -/
def secondaryRowC : Vector Instr 16 :=
  #v[.set0B, .set0C, .set0D, .set0E, .set0H, .set0L, .set0AtHl, .set0A,
     .set1B, .set1C, .set1D, .set1E, .set1H, .set1L, .set1AtHl, .set1A]

/-- Row Dx of the secondary opcode map (R61). -/
def secondaryRowD : Vector Instr 16 :=
  #v[.set2B, .set2C, .set2D, .set2E, .set2H, .set2L, .set2AtHl, .set2A,
     .set3B, .set3C, .set3D, .set3E, .set3H, .set3L, .set3AtHl, .set3A]

/-- Row Ex of the secondary opcode map (R61). -/
def secondaryRowE : Vector Instr 16 :=
  #v[.set4B, .set4C, .set4D, .set4E, .set4H, .set4L, .set4AtHl, .set4A,
     .set5B, .set5C, .set5D, .set5E, .set5H, .set5L, .set5AtHl, .set5A]

/-- Row Fx of the secondary opcode map (R61). -/
def secondaryRowF : Vector Instr 16 :=
  #v[.set6B, .set6C, .set6D, .set6E, .set6H, .set6L, .set6AtHl, .set6A,
     .set7B, .set7C, .set7D, .set7E, .set7H, .set7L, .set7AtHl, .set7A]

/-- The secondary opcode map (R61): row the high nibble, column the low nibble of the byte after 0xCB. -/
def secondaryMap : Vector (Vector Instr 16) 16 :=
  #v[secondaryRow0, secondaryRow1, secondaryRow2, secondaryRow3,
     secondaryRow4, secondaryRow5, secondaryRow6, secondaryRow7,
     secondaryRow8, secondaryRow9, secondaryRowA, secondaryRowB,
     secondaryRowC, secondaryRowD, secondaryRowE, secondaryRowF]

/-- The high nibble of an opcode byte, a row of the maps. -/
def highNibble (b : Byte) : BitVec 4 := b.extractLsb' 4 4

/-- The low nibble of an opcode byte, a column of the maps. -/
def lowNibble (b : Byte) : BitVec 4 := b.extractLsb' 0 4

/-- The primary map's slot for an opcode byte (R60). -/
def primarySlot (op : Byte) : Slot :=
  (primaryMap[(highNibble op).toNat]'(highNibble op).isLt)[(lowNibble op).toNat]'(lowNibble op).isLt

/-- The instruction of a secondary opcode (R61); every one of the 256 is defined. -/
def secondaryInstr (op2 : Byte) : Instr :=
  (secondaryMap[(highNibble op2).toNat]'(highNibble op2).isLt)[(lowNibble op2).toNat]'(lowNibble op2).isLt

/-- The length in bytes of the instruction whose first byte is `b0` (R54). -/
def instrLength (b0 : Byte) : Nat := (primarySlot b0).length

/-- The instruction read from three bytes in fetch order (R54, R55, R59). Bytes past its length are not looked at. -/
def decodeBytes (b0 b1 b2 : Byte) : Instr :=
  match primarySlot b0 with
  | .op i => i
  | .n8 f => f b1
  | .n16 f => f (wordOf b1 b2)
  | .escape => secondaryInstr b1

/-- Why a list of bytes is no instruction. -/
inductive DecodeError where
  /-- The list ends before the instruction its first byte begins does. -/
  | truncated
deriving DecidableEq, Repr

/-- Decoding of a list of bytes: the instruction at its head and the bytes after it (R54). -/
def decode : List Byte → Except DecodeError (Instr × List Byte)
  | [] => .error .truncated
  | b0 :: rest =>
    if rest.length + 1 < instrLength b0 then .error .truncated
    else .ok (decodeBytes b0 (rest.getD 0 0) (rest.getD 1 0), rest.drop (instrLength b0 - 1))

/-- The instruction of an opcode-table word of `nbits` bits, bit 0 the least significant bit of the first byte; the
bytes above `nbits` are 0. -/
def decodeTableWord (nbits w : Nat) : Option Instr :=
  let v := BitVec.ofNat 24 (w % 2 ^ nbits)
  match decode [v.extractLsb' 0 8, v.extractLsb' 8 8, v.extractLsb' 16 8] with
  | .ok (i, _) => some i
  | .error _ => none

/-- The bytes of an instruction in fetch order, from the `match` column of the opcode table (R55). -/
def encode : Instr → List Byte
  | .nop => [0x00]
  | .ldBcD16 n => [0x01, loByte n, hiByte n]
  | .ldAtBcA => [0x02]
  | .incBc => [0x03]
  | .incB => [0x04]
  | .decB => [0x05]
  | .ldBD8 n => [0x06, n]
  | .rlca => [0x07]
  | .ldAtA16Sp n => [0x08, loByte n, hiByte n]
  | .addHlBc => [0x09]
  | .ldAAtBc => [0x0A]
  | .decBc => [0x0B]
  | .incC => [0x0C]
  | .decC => [0x0D]
  | .ldCD8 n => [0x0E, n]
  | .rrca => [0x0F]
  | .stop pad => [0x10, pad]
  | .ldDeD16 n => [0x11, loByte n, hiByte n]
  | .ldAtDeA => [0x12]
  | .incDe => [0x13]
  | .incD => [0x14]
  | .decD => [0x15]
  | .ldDD8 n => [0x16, n]
  | .rla => [0x17]
  | .jrE8 e => [0x18, e]
  | .addHlDe => [0x19]
  | .ldAAtDe => [0x1A]
  | .decDe => [0x1B]
  | .incE => [0x1C]
  | .decE => [0x1D]
  | .ldED8 n => [0x1E, n]
  | .rra => [0x1F]
  | .jrNzE8 e => [0x20, e]
  | .ldHlD16 n => [0x21, loByte n, hiByte n]
  | .ldAtHlIncA => [0x22]
  | .incHl => [0x23]
  | .incH => [0x24]
  | .decH => [0x25]
  | .ldHD8 n => [0x26, n]
  | .daa => [0x27]
  | .jrZE8 e => [0x28, e]
  | .addHlHl => [0x29]
  | .ldAAtHlInc => [0x2A]
  | .decHl => [0x2B]
  | .incL => [0x2C]
  | .decL => [0x2D]
  | .ldLD8 n => [0x2E, n]
  | .cpl => [0x2F]
  | .jrNcE8 e => [0x30, e]
  | .ldSpD16 n => [0x31, loByte n, hiByte n]
  | .ldAtHlDecA => [0x32]
  | .incSp => [0x33]
  | .incAtHl => [0x34]
  | .decAtHl => [0x35]
  | .ldAtHlD8 n => [0x36, n]
  | .scf => [0x37]
  | .jrCE8 e => [0x38, e]
  | .addHlSp => [0x39]
  | .ldAAtHlDec => [0x3A]
  | .decSp => [0x3B]
  | .incA => [0x3C]
  | .decA => [0x3D]
  | .ldAD8 n => [0x3E, n]
  | .ccf => [0x3F]
  | .ldBB => [0x40]
  | .ldBC => [0x41]
  | .ldBD => [0x42]
  | .ldBE => [0x43]
  | .ldBH => [0x44]
  | .ldBL => [0x45]
  | .ldBAtHl => [0x46]
  | .ldBA => [0x47]
  | .ldCB => [0x48]
  | .ldCC => [0x49]
  | .ldCD => [0x4A]
  | .ldCE => [0x4B]
  | .ldCH => [0x4C]
  | .ldCL => [0x4D]
  | .ldCAtHl => [0x4E]
  | .ldCA => [0x4F]
  | .ldDB => [0x50]
  | .ldDC => [0x51]
  | .ldDD => [0x52]
  | .ldDE => [0x53]
  | .ldDH => [0x54]
  | .ldDL => [0x55]
  | .ldDAtHl => [0x56]
  | .ldDA => [0x57]
  | .ldEB => [0x58]
  | .ldEC => [0x59]
  | .ldED => [0x5A]
  | .ldEE => [0x5B]
  | .ldEH => [0x5C]
  | .ldEL => [0x5D]
  | .ldEAtHl => [0x5E]
  | .ldEA => [0x5F]
  | .ldHB => [0x60]
  | .ldHC => [0x61]
  | .ldHD => [0x62]
  | .ldHE => [0x63]
  | .ldHH => [0x64]
  | .ldHL => [0x65]
  | .ldHAtHl => [0x66]
  | .ldHA => [0x67]
  | .ldLB => [0x68]
  | .ldLC => [0x69]
  | .ldLD => [0x6A]
  | .ldLE => [0x6B]
  | .ldLH => [0x6C]
  | .ldLL => [0x6D]
  | .ldLAtHl => [0x6E]
  | .ldLA => [0x6F]
  | .ldAtHlB => [0x70]
  | .ldAtHlC => [0x71]
  | .ldAtHlD => [0x72]
  | .ldAtHlE => [0x73]
  | .ldAtHlH => [0x74]
  | .ldAtHlL => [0x75]
  | .halt => [0x76]
  | .ldAtHlA => [0x77]
  | .ldAB => [0x78]
  | .ldAC => [0x79]
  | .ldAD => [0x7A]
  | .ldAE => [0x7B]
  | .ldAH => [0x7C]
  | .ldAL => [0x7D]
  | .ldAAtHl => [0x7E]
  | .ldAA => [0x7F]
  | .addAB => [0x80]
  | .addAC => [0x81]
  | .addAD => [0x82]
  | .addAE => [0x83]
  | .addAH => [0x84]
  | .addAL => [0x85]
  | .addAAtHl => [0x86]
  | .addAA => [0x87]
  | .adcAB => [0x88]
  | .adcAC => [0x89]
  | .adcAD => [0x8A]
  | .adcAE => [0x8B]
  | .adcAH => [0x8C]
  | .adcAL => [0x8D]
  | .adcAAtHl => [0x8E]
  | .adcAA => [0x8F]
  | .subB => [0x90]
  | .subC => [0x91]
  | .subD => [0x92]
  | .subE => [0x93]
  | .subH => [0x94]
  | .subL => [0x95]
  | .subAtHl => [0x96]
  | .subA => [0x97]
  | .sbcAB => [0x98]
  | .sbcAC => [0x99]
  | .sbcAD => [0x9A]
  | .sbcAE => [0x9B]
  | .sbcAH => [0x9C]
  | .sbcAL => [0x9D]
  | .sbcAAtHl => [0x9E]
  | .sbcAA => [0x9F]
  | .andB => [0xA0]
  | .andC => [0xA1]
  | .andD => [0xA2]
  | .andE => [0xA3]
  | .andH => [0xA4]
  | .andL => [0xA5]
  | .andAtHl => [0xA6]
  | .andA => [0xA7]
  | .xorB => [0xA8]
  | .xorC => [0xA9]
  | .xorD => [0xAA]
  | .xorE => [0xAB]
  | .xorH => [0xAC]
  | .xorL => [0xAD]
  | .xorAtHl => [0xAE]
  | .xorA => [0xAF]
  | .orB => [0xB0]
  | .orC => [0xB1]
  | .orD => [0xB2]
  | .orE => [0xB3]
  | .orH => [0xB4]
  | .orL => [0xB5]
  | .orAtHl => [0xB6]
  | .orA => [0xB7]
  | .cpB => [0xB8]
  | .cpC => [0xB9]
  | .cpD => [0xBA]
  | .cpE => [0xBB]
  | .cpH => [0xBC]
  | .cpL => [0xBD]
  | .cpAtHl => [0xBE]
  | .cpA => [0xBF]
  | .retNz => [0xC0]
  | .popBc => [0xC1]
  | .jpNzA16 n => [0xC2, loByte n, hiByte n]
  | .jpA16 n => [0xC3, loByte n, hiByte n]
  | .callNzA16 n => [0xC4, loByte n, hiByte n]
  | .pushBc => [0xC5]
  | .addAD8 n => [0xC6, n]
  | .rst00 => [0xC7]
  | .retZ => [0xC8]
  | .ret => [0xC9]
  | .jpZA16 n => [0xCA, loByte n, hiByte n]
  | .prefixCb op2 => [0xCB, op2]
  | .callZA16 n => [0xCC, loByte n, hiByte n]
  | .callA16 n => [0xCD, loByte n, hiByte n]
  | .adcAD8 n => [0xCE, n]
  | .rst08 => [0xCF]
  | .retNc => [0xD0]
  | .popDe => [0xD1]
  | .jpNcA16 n => [0xD2, loByte n, hiByte n]
  | .illegalD3 => [0xD3]
  | .callNcA16 n => [0xD4, loByte n, hiByte n]
  | .pushDe => [0xD5]
  | .subD8 n => [0xD6, n]
  | .rst10 => [0xD7]
  | .retC => [0xD8]
  | .reti => [0xD9]
  | .jpCA16 n => [0xDA, loByte n, hiByte n]
  | .illegalDB => [0xDB]
  | .callCA16 n => [0xDC, loByte n, hiByte n]
  | .illegalDD => [0xDD]
  | .sbcAD8 n => [0xDE, n]
  | .rst18 => [0xDF]
  | .ldhAtA8A n => [0xE0, n]
  | .popHl => [0xE1]
  | .ldAtCA => [0xE2]
  | .illegalE3 => [0xE3]
  | .illegalE4 => [0xE4]
  | .pushHl => [0xE5]
  | .andD8 n => [0xE6, n]
  | .rst20 => [0xE7]
  | .addSpE8 e => [0xE8, e]
  | .jpHl => [0xE9]
  | .ldAtA16A n => [0xEA, loByte n, hiByte n]
  | .illegalEB => [0xEB]
  | .illegalEC => [0xEC]
  | .illegalED => [0xED]
  | .xorD8 n => [0xEE, n]
  | .rst28 => [0xEF]
  | .ldhAAtA8 n => [0xF0, n]
  | .popAf => [0xF1]
  | .ldAAtC => [0xF2]
  | .di => [0xF3]
  | .illegalF4 => [0xF4]
  | .pushAf => [0xF5]
  | .orD8 n => [0xF6, n]
  | .rst30 => [0xF7]
  | .ldHlSpE8 e => [0xF8, e]
  | .ldSpHl => [0xF9]
  | .ldAAtA16 n => [0xFA, loByte n, hiByte n]
  | .ei => [0xFB]
  | .illegalFC => [0xFC]
  | .illegalFD => [0xFD]
  | .cpD8 n => [0xFE, n]
  | .rst38 => [0xFF]
  | .rlcB => [0xCB, 0x00]
  | .rlcC => [0xCB, 0x01]
  | .rlcD => [0xCB, 0x02]
  | .rlcE => [0xCB, 0x03]
  | .rlcH => [0xCB, 0x04]
  | .rlcL => [0xCB, 0x05]
  | .rlcAtHl => [0xCB, 0x06]
  | .rlcA => [0xCB, 0x07]
  | .rrcB => [0xCB, 0x08]
  | .rrcC => [0xCB, 0x09]
  | .rrcD => [0xCB, 0x0A]
  | .rrcE => [0xCB, 0x0B]
  | .rrcH => [0xCB, 0x0C]
  | .rrcL => [0xCB, 0x0D]
  | .rrcAtHl => [0xCB, 0x0E]
  | .rrcA => [0xCB, 0x0F]
  | .rlB => [0xCB, 0x10]
  | .rlC => [0xCB, 0x11]
  | .rlD => [0xCB, 0x12]
  | .rlE => [0xCB, 0x13]
  | .rlH => [0xCB, 0x14]
  | .rlL => [0xCB, 0x15]
  | .rlAtHl => [0xCB, 0x16]
  | .rlA => [0xCB, 0x17]
  | .rrB => [0xCB, 0x18]
  | .rrC => [0xCB, 0x19]
  | .rrD => [0xCB, 0x1A]
  | .rrE => [0xCB, 0x1B]
  | .rrH => [0xCB, 0x1C]
  | .rrL => [0xCB, 0x1D]
  | .rrAtHl => [0xCB, 0x1E]
  | .rrA => [0xCB, 0x1F]
  | .slaB => [0xCB, 0x20]
  | .slaC => [0xCB, 0x21]
  | .slaD => [0xCB, 0x22]
  | .slaE => [0xCB, 0x23]
  | .slaH => [0xCB, 0x24]
  | .slaL => [0xCB, 0x25]
  | .slaAtHl => [0xCB, 0x26]
  | .slaA => [0xCB, 0x27]
  | .sraB => [0xCB, 0x28]
  | .sraC => [0xCB, 0x29]
  | .sraD => [0xCB, 0x2A]
  | .sraE => [0xCB, 0x2B]
  | .sraH => [0xCB, 0x2C]
  | .sraL => [0xCB, 0x2D]
  | .sraAtHl => [0xCB, 0x2E]
  | .sraA => [0xCB, 0x2F]
  | .swapB => [0xCB, 0x30]
  | .swapC => [0xCB, 0x31]
  | .swapD => [0xCB, 0x32]
  | .swapE => [0xCB, 0x33]
  | .swapH => [0xCB, 0x34]
  | .swapL => [0xCB, 0x35]
  | .swapAtHl => [0xCB, 0x36]
  | .swapA => [0xCB, 0x37]
  | .srlB => [0xCB, 0x38]
  | .srlC => [0xCB, 0x39]
  | .srlD => [0xCB, 0x3A]
  | .srlE => [0xCB, 0x3B]
  | .srlH => [0xCB, 0x3C]
  | .srlL => [0xCB, 0x3D]
  | .srlAtHl => [0xCB, 0x3E]
  | .srlA => [0xCB, 0x3F]
  | .bit0B => [0xCB, 0x40]
  | .bit0C => [0xCB, 0x41]
  | .bit0D => [0xCB, 0x42]
  | .bit0E => [0xCB, 0x43]
  | .bit0H => [0xCB, 0x44]
  | .bit0L => [0xCB, 0x45]
  | .bit0AtHl => [0xCB, 0x46]
  | .bit0A => [0xCB, 0x47]
  | .bit1B => [0xCB, 0x48]
  | .bit1C => [0xCB, 0x49]
  | .bit1D => [0xCB, 0x4A]
  | .bit1E => [0xCB, 0x4B]
  | .bit1H => [0xCB, 0x4C]
  | .bit1L => [0xCB, 0x4D]
  | .bit1AtHl => [0xCB, 0x4E]
  | .bit1A => [0xCB, 0x4F]
  | .bit2B => [0xCB, 0x50]
  | .bit2C => [0xCB, 0x51]
  | .bit2D => [0xCB, 0x52]
  | .bit2E => [0xCB, 0x53]
  | .bit2H => [0xCB, 0x54]
  | .bit2L => [0xCB, 0x55]
  | .bit2AtHl => [0xCB, 0x56]
  | .bit2A => [0xCB, 0x57]
  | .bit3B => [0xCB, 0x58]
  | .bit3C => [0xCB, 0x59]
  | .bit3D => [0xCB, 0x5A]
  | .bit3E => [0xCB, 0x5B]
  | .bit3H => [0xCB, 0x5C]
  | .bit3L => [0xCB, 0x5D]
  | .bit3AtHl => [0xCB, 0x5E]
  | .bit3A => [0xCB, 0x5F]
  | .bit4B => [0xCB, 0x60]
  | .bit4C => [0xCB, 0x61]
  | .bit4D => [0xCB, 0x62]
  | .bit4E => [0xCB, 0x63]
  | .bit4H => [0xCB, 0x64]
  | .bit4L => [0xCB, 0x65]
  | .bit4AtHl => [0xCB, 0x66]
  | .bit4A => [0xCB, 0x67]
  | .bit5B => [0xCB, 0x68]
  | .bit5C => [0xCB, 0x69]
  | .bit5D => [0xCB, 0x6A]
  | .bit5E => [0xCB, 0x6B]
  | .bit5H => [0xCB, 0x6C]
  | .bit5L => [0xCB, 0x6D]
  | .bit5AtHl => [0xCB, 0x6E]
  | .bit5A => [0xCB, 0x6F]
  | .bit6B => [0xCB, 0x70]
  | .bit6C => [0xCB, 0x71]
  | .bit6D => [0xCB, 0x72]
  | .bit6E => [0xCB, 0x73]
  | .bit6H => [0xCB, 0x74]
  | .bit6L => [0xCB, 0x75]
  | .bit6AtHl => [0xCB, 0x76]
  | .bit6A => [0xCB, 0x77]
  | .bit7B => [0xCB, 0x78]
  | .bit7C => [0xCB, 0x79]
  | .bit7D => [0xCB, 0x7A]
  | .bit7E => [0xCB, 0x7B]
  | .bit7H => [0xCB, 0x7C]
  | .bit7L => [0xCB, 0x7D]
  | .bit7AtHl => [0xCB, 0x7E]
  | .bit7A => [0xCB, 0x7F]
  | .res0B => [0xCB, 0x80]
  | .res0C => [0xCB, 0x81]
  | .res0D => [0xCB, 0x82]
  | .res0E => [0xCB, 0x83]
  | .res0H => [0xCB, 0x84]
  | .res0L => [0xCB, 0x85]
  | .res0AtHl => [0xCB, 0x86]
  | .res0A => [0xCB, 0x87]
  | .res1B => [0xCB, 0x88]
  | .res1C => [0xCB, 0x89]
  | .res1D => [0xCB, 0x8A]
  | .res1E => [0xCB, 0x8B]
  | .res1H => [0xCB, 0x8C]
  | .res1L => [0xCB, 0x8D]
  | .res1AtHl => [0xCB, 0x8E]
  | .res1A => [0xCB, 0x8F]
  | .res2B => [0xCB, 0x90]
  | .res2C => [0xCB, 0x91]
  | .res2D => [0xCB, 0x92]
  | .res2E => [0xCB, 0x93]
  | .res2H => [0xCB, 0x94]
  | .res2L => [0xCB, 0x95]
  | .res2AtHl => [0xCB, 0x96]
  | .res2A => [0xCB, 0x97]
  | .res3B => [0xCB, 0x98]
  | .res3C => [0xCB, 0x99]
  | .res3D => [0xCB, 0x9A]
  | .res3E => [0xCB, 0x9B]
  | .res3H => [0xCB, 0x9C]
  | .res3L => [0xCB, 0x9D]
  | .res3AtHl => [0xCB, 0x9E]
  | .res3A => [0xCB, 0x9F]
  | .res4B => [0xCB, 0xA0]
  | .res4C => [0xCB, 0xA1]
  | .res4D => [0xCB, 0xA2]
  | .res4E => [0xCB, 0xA3]
  | .res4H => [0xCB, 0xA4]
  | .res4L => [0xCB, 0xA5]
  | .res4AtHl => [0xCB, 0xA6]
  | .res4A => [0xCB, 0xA7]
  | .res5B => [0xCB, 0xA8]
  | .res5C => [0xCB, 0xA9]
  | .res5D => [0xCB, 0xAA]
  | .res5E => [0xCB, 0xAB]
  | .res5H => [0xCB, 0xAC]
  | .res5L => [0xCB, 0xAD]
  | .res5AtHl => [0xCB, 0xAE]
  | .res5A => [0xCB, 0xAF]
  | .res6B => [0xCB, 0xB0]
  | .res6C => [0xCB, 0xB1]
  | .res6D => [0xCB, 0xB2]
  | .res6E => [0xCB, 0xB3]
  | .res6H => [0xCB, 0xB4]
  | .res6L => [0xCB, 0xB5]
  | .res6AtHl => [0xCB, 0xB6]
  | .res6A => [0xCB, 0xB7]
  | .res7B => [0xCB, 0xB8]
  | .res7C => [0xCB, 0xB9]
  | .res7D => [0xCB, 0xBA]
  | .res7E => [0xCB, 0xBB]
  | .res7H => [0xCB, 0xBC]
  | .res7L => [0xCB, 0xBD]
  | .res7AtHl => [0xCB, 0xBE]
  | .res7A => [0xCB, 0xBF]
  | .set0B => [0xCB, 0xC0]
  | .set0C => [0xCB, 0xC1]
  | .set0D => [0xCB, 0xC2]
  | .set0E => [0xCB, 0xC3]
  | .set0H => [0xCB, 0xC4]
  | .set0L => [0xCB, 0xC5]
  | .set0AtHl => [0xCB, 0xC6]
  | .set0A => [0xCB, 0xC7]
  | .set1B => [0xCB, 0xC8]
  | .set1C => [0xCB, 0xC9]
  | .set1D => [0xCB, 0xCA]
  | .set1E => [0xCB, 0xCB]
  | .set1H => [0xCB, 0xCC]
  | .set1L => [0xCB, 0xCD]
  | .set1AtHl => [0xCB, 0xCE]
  | .set1A => [0xCB, 0xCF]
  | .set2B => [0xCB, 0xD0]
  | .set2C => [0xCB, 0xD1]
  | .set2D => [0xCB, 0xD2]
  | .set2E => [0xCB, 0xD3]
  | .set2H => [0xCB, 0xD4]
  | .set2L => [0xCB, 0xD5]
  | .set2AtHl => [0xCB, 0xD6]
  | .set2A => [0xCB, 0xD7]
  | .set3B => [0xCB, 0xD8]
  | .set3C => [0xCB, 0xD9]
  | .set3D => [0xCB, 0xDA]
  | .set3E => [0xCB, 0xDB]
  | .set3H => [0xCB, 0xDC]
  | .set3L => [0xCB, 0xDD]
  | .set3AtHl => [0xCB, 0xDE]
  | .set3A => [0xCB, 0xDF]
  | .set4B => [0xCB, 0xE0]
  | .set4C => [0xCB, 0xE1]
  | .set4D => [0xCB, 0xE2]
  | .set4E => [0xCB, 0xE3]
  | .set4H => [0xCB, 0xE4]
  | .set4L => [0xCB, 0xE5]
  | .set4AtHl => [0xCB, 0xE6]
  | .set4A => [0xCB, 0xE7]
  | .set5B => [0xCB, 0xE8]
  | .set5C => [0xCB, 0xE9]
  | .set5D => [0xCB, 0xEA]
  | .set5E => [0xCB, 0xEB]
  | .set5H => [0xCB, 0xEC]
  | .set5L => [0xCB, 0xED]
  | .set5AtHl => [0xCB, 0xEE]
  | .set5A => [0xCB, 0xEF]
  | .set6B => [0xCB, 0xF0]
  | .set6C => [0xCB, 0xF1]
  | .set6D => [0xCB, 0xF2]
  | .set6E => [0xCB, 0xF3]
  | .set6H => [0xCB, 0xF4]
  | .set6L => [0xCB, 0xF5]
  | .set6AtHl => [0xCB, 0xF6]
  | .set6A => [0xCB, 0xF7]
  | .set7B => [0xCB, 0xF8]
  | .set7C => [0xCB, 0xF9]
  | .set7D => [0xCB, 0xFA]
  | .set7E => [0xCB, 0xFB]
  | .set7H => [0xCB, 0xFC]
  | .set7L => [0xCB, 0xFD]
  | .set7AtHl => [0xCB, 0xFE]
  | .set7A => [0xCB, 0xFF]

/-- The code of a register, y or z of an opcode (R56). -/
def R8.code : R8 → BitVec 3
  | .b => 0
  | .c => 1
  | .d => 2
  | .e => 3
  | .h => 4
  | .l => 5
  | .a => 7

/-- The code of an r8 operand (R56). -/
def Operand8.code : Operand8 → BitVec 3
  | .reg r => r.code
  | .atHl => 6

/-- The code of a pair of the SP group (R57). -/
def R16.code : R16 → BitVec 2
  | .bc => 0
  | .de => 1
  | .hl => 2
  | .sp => 3

/-- The code of a pair of the AF group (R57). -/
def R16Stk.code : R16Stk → BitVec 2
  | .bc => 0
  | .de => 1
  | .hl => 2
  | .af => 3

/-- The code of a condition (R58). -/
def Cond.code : Cond → BitVec 2
  | .nz => 0
  | .z => 1
  | .nc => 2
  | .c => 3

/-- The y field of an ALU operation (R60). -/
def AluOp.code : AluOp → BitVec 3
  | .add => 0
  | .adc => 1
  | .sub => 2
  | .sbc => 3
  | .and => 4
  | .xor => 5
  | .or => 6
  | .cp => 7

/-- The y field of a rotate or shift operation (R61). -/
def RotOp.code : RotOp → BitVec 3
  | .rlc => 0
  | .rrc => 1
  | .rl => 2
  | .rr => 3
  | .sla => 4
  | .sra => 5
  | .swap => 6
  | .srl => 7

/-- An opcode slot: an entry of the primary map, or of the secondary map behind the escape byte (R54). -/
inductive OpSlot where
  | primary (op : Byte)
  | secondary (op2 : Byte)
deriving DecidableEq, Repr

/-- The slot of an instruction from its first two bytes (R54): the second one counts after the escape only. -/
def opSlot (b0 b1 : Byte) : OpSlot := if b0 = 0xCB then .secondary b1 else .primary b0

/-- The opcode byte, or the escape and the secondary opcode: no immediate, and not STOP's second byte (R12, R54, R59). -/
def OpSlot.bytes : OpSlot → List Byte
  | .primary op => [op]
  | .secondary op2 => [0xCB, op2]

/-- The slot of an instruction's words. -/
def Instr.slot (i : Instr) : OpSlot := opSlot ((encode i).getD 0 0) ((encode i).getD 1 0)

/-- The instruction whose words an instruction's words are: PREFIX CB with a secondary opcode is that opcode's
secondary instruction (R193), every other instruction is itself. -/
def canonical : Instr → Instr
  | .prefixCb op2 => secondaryInstr op2
  | i => i

end Sys2Proof
end

