-- ==== Sys2Proof/Config.lean ====
section
/-! DEFINITION. Sys2Proof/Config.lean: what is fixed for the machine and the one free value (spec/00_scope.md R7, R8).
The cycle parameters of R8 are in Machine/Cycles.lean. -/

namespace Sys2Proof

/-- The value a read of a peripheral-port address returns (R8, R204): `PeriphRead(addr, choice)`, where `choice` numbers
the bus reads. It has no body: the core puts no constraint on it, and nothing can be proved of its value (log entry 2). -/
opaque Config.periphRead : Word → Nat → Byte

/-- Rows of the framebuffer (R7). -/
abbrev Config.screenRows : Nat := 144

/-- Columns of the framebuffer (R7). -/
abbrev Config.screenColumns : Nat := 160

/-- Scanlines of a frame, numbered 0 to 153 (R7). -/
abbrev Config.scanlines : Nat := 154

end Sys2Proof
end

