-- ==== Sys2Proof/Machine/Cycles.lean ====
section
/-! DEFINITION. Sys2Proof/Machine/Cycles.lean: the cycle parameters the model takes as arguments (spec/00_scope.md R8):
CycleTable, IntDispatchCycles and HaltIdleCycles, and their defaults (spec/opcode_table.json; R228). -/

namespace Sys2Proof.Machine

/-- One entry of the CycleTable: the cycles of an opcode slot, taken and not taken (R8, R62). -/
structure CycleEntry where
  taken : Nat
  notTaken : Nat
deriving DecidableEq, Repr

/-- One of the two maps of the CycleTable: 16 rows by the high nibble, 16 entries by the low one. -/
abbrev CycleMap := Vector (Vector CycleEntry 16) 16

/-- The configuration of R8: CycleTable (two maps), IntDispatchCycles and HaltIdleCycles. -/
structure CycleConfig where
  primary : CycleMap
  secondary : CycleMap
  intDispatch : Nat
  haltIdle : Nat
deriving DecidableEq, Repr

/-- The entry of an opcode in a map. -/
def slotEntry (m : CycleMap) (op : Byte) : CycleEntry :=
  m[(highNibble op).toFin][(lowNibble op).toFin]

/-- The CycleTable's entry of a slot. -/
def CycleConfig.entry (t : CycleConfig) : OpSlot → CycleEntry
  | .primary op => slotEntry t.primary op
  | .secondary op2 => slotEntry t.secondary op2

/-! ## The defaults

Each row is sixteen slots of opcode_table.json: `cycles` and `cycles_not_taken`. A column the table leaves null is 0: an
unconditional slot has no second count, and the eleven illegal slots and the escape have none (R193, R194); no meaning
reads those. -/

/-- Slots 0x00 to 0x0F. -/
def defaultCycles0 : Vector CycleEntry 16 :=
  #v[⟨4, 0⟩, ⟨12, 0⟩, ⟨8, 0⟩, ⟨8, 0⟩, ⟨4, 0⟩, ⟨4, 0⟩, ⟨8, 0⟩, ⟨4, 0⟩,
    ⟨20, 0⟩, ⟨8, 0⟩, ⟨8, 0⟩, ⟨8, 0⟩, ⟨4, 0⟩, ⟨4, 0⟩, ⟨8, 0⟩, ⟨4, 0⟩]

/-- Slots 0x10 to 0x1F. -/
def defaultCycles1 : Vector CycleEntry 16 :=
  #v[⟨4, 0⟩, ⟨12, 0⟩, ⟨8, 0⟩, ⟨8, 0⟩, ⟨4, 0⟩, ⟨4, 0⟩, ⟨8, 0⟩, ⟨4, 0⟩,
    ⟨12, 0⟩, ⟨8, 0⟩, ⟨8, 0⟩, ⟨8, 0⟩, ⟨4, 0⟩, ⟨4, 0⟩, ⟨8, 0⟩, ⟨4, 0⟩]

/-- Slots 0x20 to 0x2F. -/
def defaultCycles2 : Vector CycleEntry 16 :=
  #v[⟨12, 8⟩, ⟨12, 0⟩, ⟨8, 0⟩, ⟨8, 0⟩, ⟨4, 0⟩, ⟨4, 0⟩, ⟨8, 0⟩, ⟨4, 0⟩,
    ⟨12, 8⟩, ⟨8, 0⟩, ⟨8, 0⟩, ⟨8, 0⟩, ⟨4, 0⟩, ⟨4, 0⟩, ⟨8, 0⟩, ⟨4, 0⟩]

/-- Slots 0x30 to 0x3F. -/
def defaultCycles3 : Vector CycleEntry 16 :=
  #v[⟨12, 8⟩, ⟨12, 0⟩, ⟨8, 0⟩, ⟨8, 0⟩, ⟨12, 0⟩, ⟨12, 0⟩, ⟨12, 0⟩, ⟨4, 0⟩,
    ⟨12, 8⟩, ⟨8, 0⟩, ⟨8, 0⟩, ⟨8, 0⟩, ⟨4, 0⟩, ⟨4, 0⟩, ⟨8, 0⟩, ⟨4, 0⟩]

/-- Slots 0x40 to 0x4F. -/
def defaultCycles4 : Vector CycleEntry 16 :=
  #v[⟨4, 0⟩, ⟨4, 0⟩, ⟨4, 0⟩, ⟨4, 0⟩, ⟨4, 0⟩, ⟨4, 0⟩, ⟨8, 0⟩, ⟨4, 0⟩,
    ⟨4, 0⟩, ⟨4, 0⟩, ⟨4, 0⟩, ⟨4, 0⟩, ⟨4, 0⟩, ⟨4, 0⟩, ⟨8, 0⟩, ⟨4, 0⟩]

/-- Slots 0x50 to 0x5F. -/
def defaultCycles5 : Vector CycleEntry 16 :=
  #v[⟨4, 0⟩, ⟨4, 0⟩, ⟨4, 0⟩, ⟨4, 0⟩, ⟨4, 0⟩, ⟨4, 0⟩, ⟨8, 0⟩, ⟨4, 0⟩,
    ⟨4, 0⟩, ⟨4, 0⟩, ⟨4, 0⟩, ⟨4, 0⟩, ⟨4, 0⟩, ⟨4, 0⟩, ⟨8, 0⟩, ⟨4, 0⟩]

/-- Slots 0x60 to 0x6F. -/
def defaultCycles6 : Vector CycleEntry 16 :=
  #v[⟨4, 0⟩, ⟨4, 0⟩, ⟨4, 0⟩, ⟨4, 0⟩, ⟨4, 0⟩, ⟨4, 0⟩, ⟨8, 0⟩, ⟨4, 0⟩,
    ⟨4, 0⟩, ⟨4, 0⟩, ⟨4, 0⟩, ⟨4, 0⟩, ⟨4, 0⟩, ⟨4, 0⟩, ⟨8, 0⟩, ⟨4, 0⟩]

/-- Slots 0x70 to 0x7F. -/
def defaultCycles7 : Vector CycleEntry 16 :=
  #v[⟨8, 0⟩, ⟨8, 0⟩, ⟨8, 0⟩, ⟨8, 0⟩, ⟨8, 0⟩, ⟨8, 0⟩, ⟨4, 0⟩, ⟨8, 0⟩,
    ⟨4, 0⟩, ⟨4, 0⟩, ⟨4, 0⟩, ⟨4, 0⟩, ⟨4, 0⟩, ⟨4, 0⟩, ⟨8, 0⟩, ⟨4, 0⟩]

/-- Slots 0x80 to 0x8F. -/
def defaultCycles8 : Vector CycleEntry 16 :=
  #v[⟨4, 0⟩, ⟨4, 0⟩, ⟨4, 0⟩, ⟨4, 0⟩, ⟨4, 0⟩, ⟨4, 0⟩, ⟨8, 0⟩, ⟨4, 0⟩,
    ⟨4, 0⟩, ⟨4, 0⟩, ⟨4, 0⟩, ⟨4, 0⟩, ⟨4, 0⟩, ⟨4, 0⟩, ⟨8, 0⟩, ⟨4, 0⟩]

/-- Slots 0x90 to 0x9F. -/
def defaultCycles9 : Vector CycleEntry 16 :=
  #v[⟨4, 0⟩, ⟨4, 0⟩, ⟨4, 0⟩, ⟨4, 0⟩, ⟨4, 0⟩, ⟨4, 0⟩, ⟨8, 0⟩, ⟨4, 0⟩,
    ⟨4, 0⟩, ⟨4, 0⟩, ⟨4, 0⟩, ⟨4, 0⟩, ⟨4, 0⟩, ⟨4, 0⟩, ⟨8, 0⟩, ⟨4, 0⟩]

/-- Slots 0xA0 to 0xAF. -/
def defaultCyclesA : Vector CycleEntry 16 :=
  #v[⟨4, 0⟩, ⟨4, 0⟩, ⟨4, 0⟩, ⟨4, 0⟩, ⟨4, 0⟩, ⟨4, 0⟩, ⟨8, 0⟩, ⟨4, 0⟩,
    ⟨4, 0⟩, ⟨4, 0⟩, ⟨4, 0⟩, ⟨4, 0⟩, ⟨4, 0⟩, ⟨4, 0⟩, ⟨8, 0⟩, ⟨4, 0⟩]

/-- Slots 0xB0 to 0xBF. -/
def defaultCyclesB : Vector CycleEntry 16 :=
  #v[⟨4, 0⟩, ⟨4, 0⟩, ⟨4, 0⟩, ⟨4, 0⟩, ⟨4, 0⟩, ⟨4, 0⟩, ⟨8, 0⟩, ⟨4, 0⟩,
    ⟨4, 0⟩, ⟨4, 0⟩, ⟨4, 0⟩, ⟨4, 0⟩, ⟨4, 0⟩, ⟨4, 0⟩, ⟨8, 0⟩, ⟨4, 0⟩]

/-- Slots 0xC0 to 0xCF. -/
def defaultCyclesC : Vector CycleEntry 16 :=
  #v[⟨20, 8⟩, ⟨12, 0⟩, ⟨16, 12⟩, ⟨16, 0⟩, ⟨24, 12⟩, ⟨16, 0⟩, ⟨8, 0⟩, ⟨16, 0⟩,
    ⟨20, 8⟩, ⟨16, 0⟩, ⟨16, 12⟩, ⟨0, 0⟩, ⟨24, 12⟩, ⟨24, 0⟩, ⟨8, 0⟩, ⟨16, 0⟩]

/-- Slots 0xD0 to 0xDF. -/
def defaultCyclesD : Vector CycleEntry 16 :=
  #v[⟨20, 8⟩, ⟨12, 0⟩, ⟨16, 12⟩, ⟨0, 0⟩, ⟨24, 12⟩, ⟨16, 0⟩, ⟨8, 0⟩, ⟨16, 0⟩,
    ⟨20, 8⟩, ⟨16, 0⟩, ⟨16, 12⟩, ⟨0, 0⟩, ⟨24, 12⟩, ⟨0, 0⟩, ⟨8, 0⟩, ⟨16, 0⟩]

/-- Slots 0xE0 to 0xEF. -/
def defaultCyclesE : Vector CycleEntry 16 :=
  #v[⟨12, 0⟩, ⟨12, 0⟩, ⟨8, 0⟩, ⟨0, 0⟩, ⟨0, 0⟩, ⟨16, 0⟩, ⟨8, 0⟩, ⟨16, 0⟩,
    ⟨16, 0⟩, ⟨4, 0⟩, ⟨16, 0⟩, ⟨0, 0⟩, ⟨0, 0⟩, ⟨0, 0⟩, ⟨8, 0⟩, ⟨16, 0⟩]

/-- Slots 0xF0 to 0xFF. -/
def defaultCyclesF : Vector CycleEntry 16 :=
  #v[⟨12, 0⟩, ⟨12, 0⟩, ⟨8, 0⟩, ⟨4, 0⟩, ⟨0, 0⟩, ⟨16, 0⟩, ⟨8, 0⟩, ⟨16, 0⟩,
    ⟨12, 0⟩, ⟨8, 0⟩, ⟨16, 0⟩, ⟨4, 0⟩, ⟨0, 0⟩, ⟨0, 0⟩, ⟨8, 0⟩, ⟨16, 0⟩]

/-- Any sixteen slots of the secondary map: 8, and 16 for (HL), whatever the operation (R144). -/
def defaultCyclesCb : Vector CycleEntry 16 :=
  #v[⟨8, 0⟩, ⟨8, 0⟩, ⟨8, 0⟩, ⟨8, 0⟩, ⟨8, 0⟩, ⟨8, 0⟩, ⟨16, 0⟩, ⟨8, 0⟩,
    ⟨8, 0⟩, ⟨8, 0⟩, ⟨8, 0⟩, ⟨8, 0⟩, ⟨8, 0⟩, ⟨8, 0⟩, ⟨16, 0⟩, ⟨8, 0⟩]

/-- The defaults of R8: the CycleTable of opcode_table.json, 20 for a dispatch step, 4 for an idle step. -/
def CycleConfig.default : CycleConfig where
  primary := #v[defaultCycles0, defaultCycles1, defaultCycles2, defaultCycles3,
    defaultCycles4, defaultCycles5, defaultCycles6, defaultCycles7,
    defaultCycles8, defaultCycles9, defaultCyclesA, defaultCyclesB,
    defaultCyclesC, defaultCyclesD, defaultCyclesE, defaultCyclesF]
  secondary := Vector.replicate 16 defaultCyclesCb
  intDispatch := 20
  haltIdle := 4

end Sys2Proof.Machine
end

