-- ==== Sys2Proof/Machine/State.lean ====
section
/-! DEFINITION. Sys2Proof/Machine/State.lean: the state of P_GB CORE (spec/10_state.md R13), the reasons a step can stop
and the state after reset (spec/70_reset_and_hazards.md R220, R221). -/

namespace Sys2Proof.Machine

/-- The power state of HALT and STOP (R23). -/
inductive Power where
  | run | halted | stopped
deriving DecidableEq, Repr

/-- The PPU's mode (R33). -/
inductive Mode where
  | hblank | vblank | oam | xfer
deriving DecidableEq, Repr

/-- The cause recorded by a fatal condition (R24, R197). Nothing raises `invalidOperand` (R64, R197). -/
inductive FaultKind where
  | unknownOpcode | invalidOperand
deriving DecidableEq, Repr

/-- The record of a fatal condition (R24): its kind, the offending byte and the address it was fetched from. -/
structure FaultRec where
  kind : FaultKind
  opcode : Byte
  pc : Word
deriving DecidableEq, Repr

/-- The inputs of one system step (R203): the external interrupt requests and the external wake condition. -/
structure StepInput where
  irq : BitVec 5
  stopWake : Bool
deriving DecidableEq, Repr

/-- What the core emits to the outside: the diagnostic of an ignored write (R44) and a write delivered to a peripheral
device (R204). -/
inductive Event where
  | ignoredWrite (addr : Word) (value : Byte)
  | periphWrite (addr : Word) (value : Byte)
deriving DecidableEq, Repr

/-- The backing array Mem (R25) as the list of its bytes that differ from their reset contents, addresses rising
(log entry 7). -/
abbrev Memory := List Host.Cell

/-- A shade of the framebuffer, 0 the lightest and 3 the darkest (R33, R217). -/
abbrev Shade := BitVec 2

/-- One row of the framebuffer. -/
abbrev Scanline := Vector Shade Config.screenColumns

/-- The framebuffer: 144 rows of 160 shades (R33). -/
abbrev FrameBuffer := Vector Scanline Config.screenRows

/-- The state of P_GB CORE (R13), and after it the model's own fields: what the last step returned (`cycles`, R195), the
opcode byte or bytes it executed (`opcode`, R208), what it emitted (`events`, R44, R204, newest first), how many bus
reads there have been (`reads`, the choice of R204), the inputs of the coming system steps (`inputs`, R203, next first)
and the cycle parameters the machine runs with, which no step changes (`timing`, R8, log entry 1). -/
structure State where
  a : Byte
  f : Byte
  b : Byte
  c : Byte
  d : Byte
  e : Byte
  h : Byte
  l : Byte
  sp : Word
  pc : Word
  ime : Bool
  eiDelay : Fin 3
  power : Power
  faultRec : Option FaultRec
  mem : Memory
  ifReg : BitVec 5
  ie : Byte
  mode : Mode
  line : Nat
  counter : Nat
  fb : FrameBuffer
  cycles : Nat
  opcode : List Byte
  events : List Event
  reads : Nat
  inputs : List StepInput
  timing : CycleConfig
deriving DecidableEq, Repr

/-- Why the machine stops with a fault. -/
inductive Fault where
  /-- Raised by the CPU step of a core whose FaultRec is set (R196, R197): it returns the recorded fault and changes
  nothing, until reset. The system step around it answers the state with the step's inputs latched and `State.result`
  that fault (R203, log entry 4). Safe: the spec's own outcome. -/
  | faulted (record : FaultRec)
deriving DecidableEq, Repr

/-- Why an instruction has no meaning. -/
inductive Refusal where
  /-- The instruction named has no meaning yet. No arm of `exec` raises it. Safe: the model stops. -/
  | notModelled (mnemonic : String)
deriving DecidableEq, Repr

/-- The machine with the cycle parameters `timing` right after reset (R8, R220, R221). Memory lists nothing: what an
unlisted byte reads as is its reset contents. The last six fields are the model's own (log entries 1, 2, 3 and 5). -/
def State.resetWith (timing : CycleConfig) : State where
  a := 0x01
  f := 0xB0
  b := 0x00
  c := 0x13
  d := 0x00
  e := 0xD8
  h := 0x01
  l := 0x4D
  sp := 0xFFFE
  pc := 0x0100
  ime := false
  eiDelay := 0
  power := .run
  faultRec := none
  mem := []
  ifReg := 0x01
  ie := 0x00
  mode := .oam
  line := 0
  counter := 0
  fb := Vector.replicate Config.screenRows (Vector.replicate Config.screenColumns 0)
  cycles := 0
  opcode := []
  events := []
  reads := 0
  inputs := []
  timing := timing

/-- The machine right after reset, with the default cycle parameters (R8, R220, R221). -/
def State.reset : State := .resetWith .default

end Sys2Proof.Machine
end

