-- ==== Sys2Proof/Machine/Flags.lean ====
section
/-! DEFINITION. Sys2Proof/Machine/Flags.lean: the flags of F (spec/10_state.md R15, R17) and every flag computation of
the instruction rules (spec/42_alu8.md, 43_alu16.md, 44_rotate_bit.md), as pure functions of the operands. -/

namespace Sys2Proof.Machine

/-- The flag Z, F[7] (R17). -/
def State.flagZ (s : State) : Bool := s.f.getLsbD 7

/-- The flag N, F[6] (R17). -/
def State.flagN (s : State) : Bool := s.f.getLsbD 6

/-- The flag H, F[5] (R17). -/
def State.flagH (s : State) : Bool := s.f.getLsbD 5

/-- The flag C, F[4] (R17). -/
def State.flagC (s : State) : Bool := s.f.getLsbD 4

/-- `F <- v`: the low nibble is masked to zero (R15). -/
def State.setF (v : Byte) (s : State) : State := { s with f := v &&& 0xF0 }

/-- The byte of F with the four flags given (R17). -/
def flagByte (z n h c : Bool) : Byte :=
  BitVec.ofBool z ++ BitVec.ofBool n ++ BitVec.ofBool h ++ BitVec.ofBool c ++ (0 : BitVec 4)

/-- Writes the four flags Z, N, H, C. -/
def State.setFlags (z n h c : Bool) (s : State) : State := s.setF (flagByte z n h c)

/-- The predicate of a condition code (R58). -/
def State.cond (s : State) : Cond → Bool
  | .nz => !s.flagZ
  | .z => s.flagZ
  | .nc => !s.flagC
  | .c => s.flagC

/-- A result with its four flags (R94). -/
structure Flagged (w : Nat) where
  res : BitVec w
  z : Bool
  n : Bool
  h : Bool
  c : Bool
deriving DecidableEq, Repr

/-- The low nibble of a byte as a number: `v & 0x0F`. -/
def nibble (v : Byte) : Nat := (v &&& 0x0F).toNat

/-- A carry as a number, 0 or 1. -/
def carryIn (c : Bool) : Nat := c.toNat

/-- `Alu_ADC(a, v, cin)` (R96); with no carry-in it is `Alu_ADD(a, v)` (R95). -/
def aluAdd (a v : Byte) (cin : Bool) : Flagged 8 :=
  let t := a.toNat + v.toNat + carryIn cin
  let res := BitVec.ofNat 8 t
  { res, z := res == 0, n := false, h := decide (nibble a + nibble v + carryIn cin > 0x0F), c := decide (t > 0xFF) }

/-- `Alu_SBC(a, v, cin)` (R98); with no carry-in it is `Alu_SUB(a, v)` (R97). -/
def aluSub (a v : Byte) (cin : Bool) : Flagged 8 :=
  let res := BitVec.ofInt 8 ((a.toNat : Int) - v.toNat - carryIn cin)
  { res, z := res == 0, n := true, h := decide (nibble a < nibble v + carryIn cin),
    c := decide (a.toNat < v.toNat + carryIn cin) }

/-- The flags of a bitwise operation: Z from the result, N and C clear, H as given (R99, R100, R101). -/
def aluLogic (res : Byte) (h : Bool) : Flagged 8 :=
  { res, z := res == 0, n := false, h, c := false }

/-- `Alu_op(a, v, cin)` (R94 to R102). CP is SUB's flags; its result is not written (R102). -/
def aluResult (op : AluOp) (a v : Byte) (cin : Bool) : Flagged 8 :=
  match op with
  | .add => aluAdd a v false
  | .adc => aluAdd a v cin
  | .sub => aluSub a v false
  | .sbc => aluSub a v cin
  | .and => aluLogic (a &&& v) true
  | .xor => aluLogic (a ^^^ v) false
  | .or => aluLogic (a ||| v) false
  | .cp => aluSub a v false

/-- The result and flags of INC on `v`, with the carry kept (R127). -/
def incResult (v : Byte) (c : Bool) : Flagged 8 :=
  let res := v + 1
  { res, z := res == 0, n := false, h := nibble v == 0x0F, c }

/-- The result and flags of DEC on `v`, with the carry kept (R129). -/
def decResult (v : Byte) (c : Bool) : Flagged 8 :=
  let res := v - 1
  { res, z := res == 0, n := true, h := nibble v == 0x00, c }

/-- DAA on `a` with the flags N, H, C of the previous operation (R131). -/
def daaResult (a : Byte) (n h c : Bool) : Flagged 8 :=
  let high : Bool := if n then c else c || decide (a.toNat > 0x99)
  let a1 : Byte := if high then (if n then a - 0x60 else a + 0x60) else a
  let low : Bool := if n then h else h || decide (nibble a1 > 0x09)
  let a2 : Byte := if low then (if n then a1 - 0x06 else a1 + 0x06) else a1
  { res := a2, z := a2 == 0, n, h := false, c := high }

/-- ADD HL,rr: Z kept, H the carry out of bit 11, C the carry out of bit 15 (R135). -/
def addHlResult (hl v : Word) (z : Bool) : Flagged 16 :=
  let t := hl.toNat + v.toNat
  { res := BitVec.ofNat 16 t, z, n := false,
    h := decide ((hl &&& 0x0FFF).toNat + (v &&& 0x0FFF).toNat > 0x0FFF), c := decide (t > 0xFFFF) }

/-- The byte `e` read as two's complement and widened to 16 bits, `sext_16` (R10). -/
def sext16 (e : Byte) : Word := e.signExtend 16

/-- SP plus a signed offset, with the flags of the unsigned addition to SP's low byte (R138). -/
def addSpResult (sp : Word) (e : Byte) : Flagged 16 :=
  { res := sp + sext16 e, z := false, n := false,
    h := decide ((sp &&& 0x0F).toNat + (e &&& 0x0F).toNat > 0x0F),
    c := decide ((sp &&& 0xFF).toNat + e.toNat > 0xFF) }

/-- The operand after a rotate or shift and the carry out of it: `Shift_op(v, cin)` (R145 to R166). -/
def shiftResult (op : RotOp) (v : Byte) (cin : Bool) : Byte × Bool :=
  let bit7 : Byte := v >>> 7
  let bit0 : Byte := v &&& 1
  let carry : Byte := (BitVec.ofBool cin).setWidth 8
  match op with
  | .rlc => ((v <<< 1) ||| bit7, v.getLsbD 7)
  | .rrc => ((v >>> 1) ||| (bit0 <<< 7), v.getLsbD 0)
  | .rl => ((v <<< 1) ||| carry, v.getLsbD 7)
  | .rr => ((v >>> 1) ||| (carry <<< 7), v.getLsbD 0)
  | .sla => (v <<< 1, v.getLsbD 7)
  | .sra => ((v >>> 1) ||| (v &&& 0x80), v.getLsbD 0)
  | .swap => ((v <<< 4) ||| (v >>> 4), false)
  | .srl => (v >>> 1, v.getLsbD 0)

/-- A CB rotate or shift with its flags Z00C (R144; Z000 for SWAP, whose carry out is 0). -/
def rotResult (op : RotOp) (v : Byte) (cin : Bool) : Flagged 8 :=
  let r := shiftResult op v cin
  { res := r.1, z := r.1 == 0, n := false, h := false, c := r.2 }

/-- An accumulator rotate with its flags 000C (R140 to R143). -/
def rotAccResult (op : RotOp) (v : Byte) (cin : Bool) : Flagged 8 :=
  { rotResult op v cin with z := false }

/-- `1 << b` as a byte. -/
def bitMask (b : Fin 8) : Byte := 1 <<< b.val

end Sys2Proof.Machine
end

