-- ==== Sys2Proof/Machine/Ops.lean ====
section
/-! DEFINITION. Sys2Proof/Machine/Ops.lean: the named operations over registers, memory and the bus (spec/10_state.md,
20_memory.md), the stack (spec/41_load16_stack.md R86, R87), taking an interrupt or the fault and returning from one
(spec/60_exceptions.md R197, R200, R201), and the host's accesses (R53, R205). -/

namespace Sys2Proof.Machine

/-! ## The backing array -/

/-- The reset contents of the backing array, which an unlisted address reads as (R25, R34). -/
def Memory.initial (a : Nat) : Byte :=
  if a = 0xFF40 then 0x91 else if a = 0xFF47 then 0xFC else 0x00

/-- `Mem[a]`. -/
def Memory.get : Memory → Nat → Byte
  | [], a => Memory.initial a
  | cell :: m, a => if cell.1 = a then cell.2 else Memory.get m a

/-- Lists `v` at `a`, keeping the addresses rising. -/
def Memory.insert : Memory → Nat → Byte → Memory
  | [], a, v => [(a, v)]
  | cell :: m, a, v =>
    if a < cell.1 then (a, v) :: cell :: m
    else if cell.1 = a then (a, v) :: m
    else cell :: Memory.insert m a v

/-- `Mem[a] <- v`: a byte at its reset contents is not listed. -/
def Memory.set (m : Memory) (a : Nat) (v : Byte) : Memory :=
  if v = Memory.initial a then m.filter (fun cell => cell.1 != a) else Memory.insert m a v

/-- The canonical form of the backing array: addresses strictly rising, every address in the 64 KiB space, no entry at
its reset contents. -/
abbrev Memory.wf (m : Memory) : Prop :=
  m.Pairwise (fun x y => x.1 < y.1) ∧ ∀ cell ∈ m, cell.1 < 0x10000 ∧ cell.2 ≠ Memory.initial cell.1

/-! ## The bus -/

/-- The STAT number of a mode (R33). -/
def Mode.number : Mode → Byte
  | .hblank => 0
  | .vblank => 1
  | .oam => 2
  | .xfer => 3

/-- Who serves an address (R37, R41, R42). `plain` is the backing array, read and written. -/
inductive BusTarget where
  | rom | plain | unmapped | prohibited | periph | ifReg | stat | ly | ie
deriving DecidableEq, Repr

/-- The address is one of the peripheral port's: JOYP, DIV, TIMA, TMA, TAC (R41, R204). -/
def isPeriphAddr (a : Word) : Bool :=
  a == 0xFF00 || a == 0xFF04 || a == 0xFF05 || a == 0xFF06 || a == 0xFF07

/-- The address map (R37) with its intercepted addresses (R41). -/
def busTarget (a : Word) : BusTarget :=
  if a.toNat < 0x8000 then .rom
  else if a.toNat < 0xE000 then .plain
  else if a.toNat < 0xFE00 then .unmapped
  else if a.toNat < 0xFEA0 then .plain
  else if a.toNat < 0xFF00 then .prohibited
  else if isPeriphAddr a then .periph
  else if a = 0xFF0F then .ifReg
  else if a = 0xFF41 then .stat
  else if a = 0xFF44 then .ly
  else if a = 0xFFFF then .ie
  else .plain

/-- `MemRead(addr)`: the byte a bus read returns (R37, R38, R40, R41). -/
def State.busRead (s : State) (addr : Word) : Byte :=
  match busTarget addr with
  | .rom | .plain => s.mem.get addr.toNat
  | .unmapped | .prohibited => 0x00
  | .periph => Config.periphRead addr s.reads
  | .ifReg => 0xE0 ||| s.ifReg.setWidth 8
  | .stat => (s.mem.get addr.toNat &&& 0xFC) ||| s.mode.number
  | .ly => BitVec.ofNat 8 s.line
  | .ie => s.ie

/-- A bus read has happened: it changes no state of the core (R43) and counts as one draw (log entry 2). -/
def State.countRead (s : State) : State := { s with reads := s.reads + 1 }

/-- Emits an event to the outside (R44, R204). -/
def State.emit (ev : Event) (s : State) : State := { s with events := ev :: s.events }

/-- `Mem[addr] <- v` in the backing array. -/
def State.setMem (addr : Word) (v : Byte) (s : State) : State := { s with mem := s.mem.set addr.toNat v }

/-- `MemWrite(addr, v)`: a bus write (R37 to R41). -/
def State.memWrite (addr : Word) (v : Byte) (s : State) : State :=
  match busTarget addr with
  | .rom | .prohibited => s.emit (.ignoredWrite addr v)
  | .unmapped | .ly => s
  | .plain => s.setMem addr v
  | .periph => s.emit (.periphWrite addr v)
  | .ifReg => { s with ifReg := v.setWidth 5 }
  | .stat => s.setMem addr (v &&& 0xFC)
  | .ie => { s with ie := v }

/-- `MemWrite16(addr, v)`: low byte at `addr`, then high byte at the next address (R10). -/
def State.memWrite16 (addr : Word) (v : Word) (s : State) : State :=
  (s.memWrite addr (loByte v)).memWrite (addr + 1) (hiByte v)

/-! ## Registers -/

/-- An 8-bit register (R14, R56). -/
def State.reg (s : State) : R8 → Byte
  | .b => s.b
  | .c => s.c
  | .d => s.d
  | .e => s.e
  | .h => s.h
  | .l => s.l
  | .a => s.a

/-- Writes an 8-bit register (R14). -/
def State.setReg (r : R8) (v : Byte) (s : State) : State :=
  match r with
  | .b => { s with b := v }
  | .c => { s with c := v }
  | .d => { s with d := v }
  | .e => { s with e := v }
  | .h => { s with h := v }
  | .l => { s with l := v }
  | .a => { s with a := v }

/-- The pair BC (R14). -/
def State.bc (s : State) : Word := wordOf s.c s.b

/-- The pair DE (R14). -/
def State.de (s : State) : Word := wordOf s.e s.d

/-- The pair HL (R14). -/
def State.hl (s : State) : Word := wordOf s.l s.h

/-- The pair AF (R14). -/
def State.af (s : State) : Word := wordOf s.f s.a

/-- Writes HL (R14). -/
def State.setHl (v : Word) (s : State) : State := { s with h := hiByte v, l := loByte v }

/-- A register pair or SP (R57). -/
def State.pair (s : State) : R16 → Word
  | .bc => s.bc
  | .de => s.de
  | .hl => s.hl
  | .sp => s.sp

/-- Writes a register pair or SP (R14, R57). -/
def State.setPair (p : R16) (v : Word) (s : State) : State :=
  match p with
  | .bc => { s with b := hiByte v, c := loByte v }
  | .de => { s with d := hiByte v, e := loByte v }
  | .hl => s.setHl v
  | .sp => { s with sp := v }

/-- A pair of the PUSH and POP group (R57). -/
def State.stkPair (s : State) : R16Stk → Word
  | .bc => s.bc
  | .de => s.de
  | .hl => s.hl
  | .af => s.af

/-- Writes a pair of the PUSH and POP group; AF's low nibble is masked to zero (R15, R57). -/
def State.setStkPair (p : R16Stk) (v : Word) (s : State) : State :=
  match p with
  | .bc => s.setPair .bc v
  | .de => s.setPair .de v
  | .hl => s.setPair .hl v
  | .af => { s with a := hiByte v }.setF (loByte v)

/-- `PC <- target`. -/
def State.jump (target : Word) (s : State) : State := { s with pc := target }

/-! ## The stack -/

/-- `Push16(v)`: high byte at SP - 1, then low byte at SP - 2 (R86). -/
def State.push16 (v : Word) (s : State) : State :=
  let s1 := { s with sp := s.sp - 1 }.memWrite (s.sp - 1) (hiByte v)
  { s1 with sp := s.sp - 2 }.memWrite (s.sp - 2) (loByte v)

/-- The value `Pop16()` returns: low byte at SP, high byte at SP + 1 (R87). -/
def State.popValue (s : State) : Word :=
  wordOf (s.busRead s.sp) (s.countRead.busRead (s.sp + 1))

/-- The state after `Pop16()`: two bus reads, SP increased by 2 (R87). -/
def State.afterPop (s : State) : State := { s.countRead.countRead with sp := s.sp + 2 }

/-! ## The outcome of an instruction -/

/-- `cycles <- n`: the value the step returns (R10). -/
def State.setCycles (n : Nat) (s : State) : State := { s with cycles := n }

/-- The instruction completes with the cycles of its slot: the CycleTable's taken count (R8, R10, R195, R196). -/
def finish (slot : OpSlot) (s : State) : Host.Outcome State Fault Refusal :=
  .next (s.setCycles (s.timing.entry slot).taken)

/-- A conditional instruction completes with the cycles of its slot not taken (R8, R196). -/
def finishNotTaken (slot : OpSlot) (s : State) : Host.Outcome State Fault Refusal :=
  .next (s.setCycles (s.timing.entry slot).notTaken)

/-! ## Interrupts and the fault -/

/-- The interrupt sources (R198). -/
inductive IntSource where
  | vblank | lcdStat | timer | serial | joypad
deriving DecidableEq, Repr

/-- The bit of IF and IE of a source (R198). -/
def IntSource.bit : IntSource → Nat
  | .vblank => 0
  | .lcdStat => 1
  | .timer => 2
  | .serial => 3
  | .joypad => 4

/-- The vector of a source: 0x0040 + 8 * i (R198, R200). -/
def IntSource.vector (i : IntSource) : Word := BitVec.ofNat 16 (0x0040 + 8 * i.bit)

/-- The enabled, pending requests: `IE & IF & 0x1F` (R196, R199). -/
def State.pending (s : State) : BitVec 5 := s.ie.setWidth 5 &&& s.ifReg

/-- The source of the lowest set bit (R199). -/
def highestPriority (p : BitVec 5) : Option IntSource :=
  if p.getLsbD 0 then some .vblank
  else if p.getLsbD 1 then some .lcdStat
  else if p.getLsbD 2 then some .timer
  else if p.getLsbD 3 then some .serial
  else if p.getLsbD 4 then some .joypad
  else none

/-- The source a step dispatches: none while IME is 0 (R196, R199). -/
def State.interruptTaken (s : State) : Option IntSource :=
  if s.ime then highestPriority s.pending else none

/-- Trap entry: `Dispatch(i)` (R200). PC is pushed, IME and EiDelay cleared, the request bit cleared, PC set to the
vector, in this order. -/
def State.takeInterrupt (i : IntSource) (s : State) : State :=
  let s1 := s.push16 s.pc
  { s1 with
    ime := false
    eiDelay := 0
    ifReg := s1.ifReg &&& ~~~((1 : BitVec 5) <<< i.bit)
    pc := i.vector }

/-- Trap return: `PC <- Pop16(); IME <- 1` (R185, R201). -/
def State.returnFromInterrupt (s : State) : State :=
  { s.afterPop with pc := s.popValue, ime := true }

/-- The fatal condition `raise Fault(UnknownOpcode, op, pc0)` (R194, R197): FaultRec is set and PC goes back to pc0, the
address the one-byte opcode was fetched from. Nothing else changes. The step that raises it answers this state, whose
FaultRec is the fault it returns (log entry 4). -/
def raiseUnknownOpcode (op : Byte) (s : State) : Host.Outcome State Fault Refusal :=
  .next { s with faultRec := some { kind := .unknownOpcode, opcode := op, pc := s.pc - 1 }, pc := s.pc - 1 }

/-! ## The host's accesses -/

/-- `Mem[addr + i] <- bytes[i]` for each byte, in the backing array. -/
def State.install (addr : Nat) : List Byte → State → State
  | [], s => s
  | v :: bytes, s => State.install (addr + 1) bytes { s with mem := s.mem.set addr v }

/-- `load(baseAddress, bytes)` (R53): fails whole if the image does not fit, else writes the backing array directly. -/
def State.load (base : Word) (bytes : List Byte) (s : State) : Option State :=
  if base.toNat + bytes.length > 0x10000 then none else some (s.install base.toNat bytes)

/-- The host's bus read (R205): the byte and the state after it. -/
def State.hostRead (addr : Word) (s : State) : Byte × State := (s.busRead addr, s.countRead)

/-- The host's bus write (R205). -/
def State.hostWrite (addr : Word) (v : Byte) (s : State) : State := s.memWrite addr v

/-- The framebuffer accessor (R217). -/
def State.frame (s : State) : FrameBuffer := s.fb

/-- What a CPU step returns (R195): `Ok(n)` or `Fault(rec)`. -/
inductive StepResult where
  | ok (cycles : Nat)
  | fault (record : FaultRec)
deriving DecidableEq, Repr

/-- What the step that left this state returned (R195). -/
def State.result (s : State) : StepResult :=
  match s.faultRec with
  | some r => .fault r
  | none => .ok s.cycles

/-- What the observation hook receives (R208). -/
structure Observation where
  result : StepResult
  a : Byte
  f : Byte
  b : Byte
  c : Byte
  d : Byte
  e : Byte
  h : Byte
  l : Byte
  sp : Word
  pc : Word
  ime : Bool
  power : Power
  opcode : List Byte
deriving DecidableEq, Repr

/-- The observation of the step that left this state: none after a fault (R203, R208). -/
def State.observe (s : State) : Option Observation :=
  match s.faultRec with
  | some _ => none
  | none =>
    some { result := s.result, a := s.a, f := s.f, b := s.b, c := s.c, d := s.d, e := s.e, h := s.h, l := s.l,
           sp := s.sp, pc := s.pc, ime := s.ime, power := s.power, opcode := s.opcode }

end Sys2Proof.Machine
end

