-- ==== Sys2Proof/Machine/Operands.lean ====
section
/-! DEFINITION. Sys2Proof/Machine/Operands.lean: the operand forms (spec/30_encoding.md R56 to R59): the r8 operand with
(HL) as code 6, the second operand of the ALU block, high-page addresses and relative targets. -/

namespace Sys2Proof.Machine

/-- The value of an r8 operand (R10, R56): a register, or the byte read at HL. -/
def State.operand (s : State) : Operand8 → Byte
  | .reg r => s.reg r
  | .atHl => s.busRead s.hl

/-- The state after reading an r8 operand: code 6 is one bus read. -/
def State.afterOperand (o : Operand8) (s : State) : State :=
  match o with
  | .reg _ => s
  | .atHl => s.countRead

/-- Writes an r8 operand (R10, R56): a register, or the byte at HL through the bus. -/
def State.setOperand (o : Operand8) (v : Byte) (s : State) : State :=
  match o with
  | .reg r => s.setReg r v
  | .atHl => s.memWrite s.hl v

/-- The second operand of an 8-bit ALU operation (R94). -/
def State.aluSrc (s : State) : AluSrc → Byte
  | .operand o => s.operand o
  | .imm n => n

/-- The state after reading the second operand of an 8-bit ALU operation. -/
def State.afterAluSrc (src : AluSrc) (s : State) : State :=
  match src with
  | .operand o => s.afterOperand o
  | .imm _ => s

/-- The high-page address 0xFF00 + n (R59). -/
def highPage (n : Byte) : Word := wordOf n 0xFF

/-- The target of a relative jump: PC after the instruction plus the signed offset (R178). -/
def State.relTarget (s : State) (e : Byte) : Word := s.pc + sext16 e

/-- The r8 operand of a 3-bit code (R56). -/
def operandOfCode (code : BitVec 3) : Operand8 :=
  match code.toNat with
  | 0 => .reg .b
  | 1 => .reg .c
  | 2 => .reg .d
  | 3 => .reg .e
  | 4 => .reg .h
  | 5 => .reg .l
  | 6 => .atHl
  | _ => .reg .a

/-- The rotate or shift operation of a 3-bit code (R61). -/
def rotOfCode (code : BitVec 3) : RotOp :=
  match code.toNat with
  | 0 => .rlc
  | 1 => .rrc
  | 2 => .rl
  | 3 => .rr
  | 4 => .sla
  | 5 => .sra
  | 6 => .swap
  | _ => .srl

end Sys2Proof.Machine
end

