-- ==== Sys2Proof/Machine/Alu8.lean ====
section
/-! DEFINITION. Sys2Proof/Machine/Alu8.lean: 8-bit arithmetic and logic (spec/42_alu8.md R94 to R134). -/

namespace Sys2Proof.Machine

/-- Writes the four flags of a result. -/
def setResultFlags {w : Nat} (r : Flagged w) (s : State) : State := s.setFlags r.z r.n r.h r.c

/-- One ALU instruction (R94): reads its second operand, writes A (except CP, R102) and the four flags. -/
def aluStep (op : AluOp) (src : AluSrc) (s : State) : State :=
  let r := aluResult op s.a (s.aluSrc src) s.flagC
  let s1 := setResultFlags r (s.afterAluSrc src)
  match op with
  | .cp => s1
  | _ => { s1 with a := r.res }

/-- INC on an r8 operand, C kept (R127, R128). -/
def incOperand (o : Operand8) (s : State) : State :=
  let r := incResult (s.operand o) s.flagC
  setResultFlags r ((s.afterOperand o).setOperand o r.res)

/-- DEC on an r8 operand, C kept (R129, R130). -/
def decOperand (o : Operand8) (s : State) : State :=
  let r := decResult (s.operand o) s.flagC
  setResultFlags r ((s.afterOperand o).setOperand o r.res)

/-- DAA on A (R131). -/
def daaStep (s : State) : State :=
  let r := daaResult s.a s.flagN s.flagH s.flagC
  setResultFlags r { s with a := r.res }

/-- CPL: A complemented, N and H set (R132). -/
def cplStep (s : State) : State := { s with a := ~~~s.a }.setFlags s.flagZ true true s.flagC

/-- INC B (R127). -/
def execIncB (s : State) : Host.Outcome State Fault Refusal := finish (.primary 0x04) (incOperand (.reg .b) s)

/-- DEC B (R129). -/
def execDecB (s : State) : Host.Outcome State Fault Refusal := finish (.primary 0x05) (decOperand (.reg .b) s)

/-- INC C (R127). -/
def execIncC (s : State) : Host.Outcome State Fault Refusal := finish (.primary 0x0C) (incOperand (.reg .c) s)

/-- DEC C (R129). -/
def execDecC (s : State) : Host.Outcome State Fault Refusal := finish (.primary 0x0D) (decOperand (.reg .c) s)

/-- INC D (R127). -/
def execIncD (s : State) : Host.Outcome State Fault Refusal := finish (.primary 0x14) (incOperand (.reg .d) s)

/-- DEC D (R129). -/
def execDecD (s : State) : Host.Outcome State Fault Refusal := finish (.primary 0x15) (decOperand (.reg .d) s)

/-- INC E (R127). -/
def execIncE (s : State) : Host.Outcome State Fault Refusal := finish (.primary 0x1C) (incOperand (.reg .e) s)

/-- DEC E (R129). -/
def execDecE (s : State) : Host.Outcome State Fault Refusal := finish (.primary 0x1D) (decOperand (.reg .e) s)

/-- INC H (R127). -/
def execIncH (s : State) : Host.Outcome State Fault Refusal := finish (.primary 0x24) (incOperand (.reg .h) s)

/-- DEC H (R129). -/
def execDecH (s : State) : Host.Outcome State Fault Refusal := finish (.primary 0x25) (decOperand (.reg .h) s)

/-- DAA (R131). -/
def execDaa (s : State) : Host.Outcome State Fault Refusal := finish (.primary 0x27) (daaStep s)

/-- INC L (R127). -/
def execIncL (s : State) : Host.Outcome State Fault Refusal := finish (.primary 0x2C) (incOperand (.reg .l) s)

/-- DEC L (R129). -/
def execDecL (s : State) : Host.Outcome State Fault Refusal := finish (.primary 0x2D) (decOperand (.reg .l) s)

/-- CPL (R132). -/
def execCpl (s : State) : Host.Outcome State Fault Refusal := finish (.primary 0x2F) (cplStep s)

/-- INC (HL) (R128). -/
def execIncAtHl (s : State) : Host.Outcome State Fault Refusal := finish (.primary 0x34) (incOperand .atHl s)

/-- DEC (HL) (R130). -/
def execDecAtHl (s : State) : Host.Outcome State Fault Refusal := finish (.primary 0x35) (decOperand .atHl s)

/-- SCF (R133). -/
def execScf (s : State) : Host.Outcome State Fault Refusal :=
  finish (.primary 0x37) (s.setFlags s.flagZ false false true)

/-- INC A (R127). -/
def execIncA (s : State) : Host.Outcome State Fault Refusal := finish (.primary 0x3C) (incOperand (.reg .a) s)

/-- DEC A (R129). -/
def execDecA (s : State) : Host.Outcome State Fault Refusal := finish (.primary 0x3D) (decOperand (.reg .a) s)

/-- CCF (R134). -/
def execCcf (s : State) : Host.Outcome State Fault Refusal :=
  finish (.primary 0x3F) (s.setFlags s.flagZ false false (!s.flagC))

/-- ADD A,B (R103). -/
def execAddAB (s : State) : Host.Outcome State Fault Refusal :=
  finish (.primary 0x80) (aluStep .add (.operand (.reg .b)) s)

/-- ADD A,C (R103). -/
def execAddAC (s : State) : Host.Outcome State Fault Refusal :=
  finish (.primary 0x81) (aluStep .add (.operand (.reg .c)) s)

/-- ADD A,D (R103). -/
def execAddAD (s : State) : Host.Outcome State Fault Refusal :=
  finish (.primary 0x82) (aluStep .add (.operand (.reg .d)) s)

/-- ADD A,E (R103). -/
def execAddAE (s : State) : Host.Outcome State Fault Refusal :=
  finish (.primary 0x83) (aluStep .add (.operand (.reg .e)) s)

/-- ADD A,H (R103). -/
def execAddAH (s : State) : Host.Outcome State Fault Refusal :=
  finish (.primary 0x84) (aluStep .add (.operand (.reg .h)) s)

/-- ADD A,L (R103). -/
def execAddAL (s : State) : Host.Outcome State Fault Refusal :=
  finish (.primary 0x85) (aluStep .add (.operand (.reg .l)) s)

/-- ADD A,(HL) (R104). -/
def execAddAAtHl (s : State) : Host.Outcome State Fault Refusal :=
  finish (.primary 0x86) (aluStep .add (.operand .atHl) s)

/-- ADD A,A (R103). -/
def execAddAA (s : State) : Host.Outcome State Fault Refusal :=
  finish (.primary 0x87) (aluStep .add (.operand (.reg .a)) s)

/-- ADC A,B (R106). -/
def execAdcAB (s : State) : Host.Outcome State Fault Refusal :=
  finish (.primary 0x88) (aluStep .adc (.operand (.reg .b)) s)

/-- ADC A,C (R106). -/
def execAdcAC (s : State) : Host.Outcome State Fault Refusal :=
  finish (.primary 0x89) (aluStep .adc (.operand (.reg .c)) s)

/-- ADC A,D (R106). -/
def execAdcAD (s : State) : Host.Outcome State Fault Refusal :=
  finish (.primary 0x8A) (aluStep .adc (.operand (.reg .d)) s)

/-- ADC A,E (R106). -/
def execAdcAE (s : State) : Host.Outcome State Fault Refusal :=
  finish (.primary 0x8B) (aluStep .adc (.operand (.reg .e)) s)

/-- ADC A,H (R106). -/
def execAdcAH (s : State) : Host.Outcome State Fault Refusal :=
  finish (.primary 0x8C) (aluStep .adc (.operand (.reg .h)) s)

/-- ADC A,L (R106). -/
def execAdcAL (s : State) : Host.Outcome State Fault Refusal :=
  finish (.primary 0x8D) (aluStep .adc (.operand (.reg .l)) s)

/-- ADC A,(HL) (R107). -/
def execAdcAAtHl (s : State) : Host.Outcome State Fault Refusal :=
  finish (.primary 0x8E) (aluStep .adc (.operand .atHl) s)

/-- ADC A,A (R106). -/
def execAdcAA (s : State) : Host.Outcome State Fault Refusal :=
  finish (.primary 0x8F) (aluStep .adc (.operand (.reg .a)) s)

/-- SUB B (R109). -/
def execSubB (s : State) : Host.Outcome State Fault Refusal :=
  finish (.primary 0x90) (aluStep .sub (.operand (.reg .b)) s)

/-- SUB C (R109). -/
def execSubC (s : State) : Host.Outcome State Fault Refusal :=
  finish (.primary 0x91) (aluStep .sub (.operand (.reg .c)) s)

/-- SUB D (R109). -/
def execSubD (s : State) : Host.Outcome State Fault Refusal :=
  finish (.primary 0x92) (aluStep .sub (.operand (.reg .d)) s)

/-- SUB E (R109). -/
def execSubE (s : State) : Host.Outcome State Fault Refusal :=
  finish (.primary 0x93) (aluStep .sub (.operand (.reg .e)) s)

/-- SUB H (R109). -/
def execSubH (s : State) : Host.Outcome State Fault Refusal :=
  finish (.primary 0x94) (aluStep .sub (.operand (.reg .h)) s)

/-- SUB L (R109). -/
def execSubL (s : State) : Host.Outcome State Fault Refusal :=
  finish (.primary 0x95) (aluStep .sub (.operand (.reg .l)) s)

/-- SUB (HL) (R110). -/
def execSubAtHl (s : State) : Host.Outcome State Fault Refusal :=
  finish (.primary 0x96) (aluStep .sub (.operand .atHl) s)

/-- SUB A (R109). -/
def execSubA (s : State) : Host.Outcome State Fault Refusal :=
  finish (.primary 0x97) (aluStep .sub (.operand (.reg .a)) s)

/-- SBC A,B (R112). -/
def execSbcAB (s : State) : Host.Outcome State Fault Refusal :=
  finish (.primary 0x98) (aluStep .sbc (.operand (.reg .b)) s)

/-- SBC A,C (R112). -/
def execSbcAC (s : State) : Host.Outcome State Fault Refusal :=
  finish (.primary 0x99) (aluStep .sbc (.operand (.reg .c)) s)

/-- SBC A,D (R112). -/
def execSbcAD (s : State) : Host.Outcome State Fault Refusal :=
  finish (.primary 0x9A) (aluStep .sbc (.operand (.reg .d)) s)

/-- SBC A,E (R112). -/
def execSbcAE (s : State) : Host.Outcome State Fault Refusal :=
  finish (.primary 0x9B) (aluStep .sbc (.operand (.reg .e)) s)

/-- SBC A,H (R112). -/
def execSbcAH (s : State) : Host.Outcome State Fault Refusal :=
  finish (.primary 0x9C) (aluStep .sbc (.operand (.reg .h)) s)

/-- SBC A,L (R112). -/
def execSbcAL (s : State) : Host.Outcome State Fault Refusal :=
  finish (.primary 0x9D) (aluStep .sbc (.operand (.reg .l)) s)

/-- SBC A,(HL) (R113). -/
def execSbcAAtHl (s : State) : Host.Outcome State Fault Refusal :=
  finish (.primary 0x9E) (aluStep .sbc (.operand .atHl) s)

/-- SBC A,A (R112). -/
def execSbcAA (s : State) : Host.Outcome State Fault Refusal :=
  finish (.primary 0x9F) (aluStep .sbc (.operand (.reg .a)) s)

/-- AND B (R115). -/
def execAndB (s : State) : Host.Outcome State Fault Refusal :=
  finish (.primary 0xA0) (aluStep .and (.operand (.reg .b)) s)

/-- AND C (R115). -/
def execAndC (s : State) : Host.Outcome State Fault Refusal :=
  finish (.primary 0xA1) (aluStep .and (.operand (.reg .c)) s)

/-- AND D (R115). -/
def execAndD (s : State) : Host.Outcome State Fault Refusal :=
  finish (.primary 0xA2) (aluStep .and (.operand (.reg .d)) s)

/-- AND E (R115). -/
def execAndE (s : State) : Host.Outcome State Fault Refusal :=
  finish (.primary 0xA3) (aluStep .and (.operand (.reg .e)) s)

/-- AND H (R115). -/
def execAndH (s : State) : Host.Outcome State Fault Refusal :=
  finish (.primary 0xA4) (aluStep .and (.operand (.reg .h)) s)

/-- AND L (R115). -/
def execAndL (s : State) : Host.Outcome State Fault Refusal :=
  finish (.primary 0xA5) (aluStep .and (.operand (.reg .l)) s)

/-- AND (HL) (R116). -/
def execAndAtHl (s : State) : Host.Outcome State Fault Refusal :=
  finish (.primary 0xA6) (aluStep .and (.operand .atHl) s)

/-- AND A (R115). -/
def execAndA (s : State) : Host.Outcome State Fault Refusal :=
  finish (.primary 0xA7) (aluStep .and (.operand (.reg .a)) s)

/-- XOR B (R118). -/
def execXorB (s : State) : Host.Outcome State Fault Refusal :=
  finish (.primary 0xA8) (aluStep .xor (.operand (.reg .b)) s)

/-- XOR C (R118). -/
def execXorC (s : State) : Host.Outcome State Fault Refusal :=
  finish (.primary 0xA9) (aluStep .xor (.operand (.reg .c)) s)

/-- XOR D (R118). -/
def execXorD (s : State) : Host.Outcome State Fault Refusal :=
  finish (.primary 0xAA) (aluStep .xor (.operand (.reg .d)) s)

/-- XOR E (R118). -/
def execXorE (s : State) : Host.Outcome State Fault Refusal :=
  finish (.primary 0xAB) (aluStep .xor (.operand (.reg .e)) s)

/-- XOR H (R118). -/
def execXorH (s : State) : Host.Outcome State Fault Refusal :=
  finish (.primary 0xAC) (aluStep .xor (.operand (.reg .h)) s)

/-- XOR L (R118). -/
def execXorL (s : State) : Host.Outcome State Fault Refusal :=
  finish (.primary 0xAD) (aluStep .xor (.operand (.reg .l)) s)

/-- XOR (HL) (R119). -/
def execXorAtHl (s : State) : Host.Outcome State Fault Refusal :=
  finish (.primary 0xAE) (aluStep .xor (.operand .atHl) s)

/-- XOR A (R118). -/
def execXorA (s : State) : Host.Outcome State Fault Refusal :=
  finish (.primary 0xAF) (aluStep .xor (.operand (.reg .a)) s)

/-- OR B (R121). -/
def execOrB (s : State) : Host.Outcome State Fault Refusal :=
  finish (.primary 0xB0) (aluStep .or (.operand (.reg .b)) s)

/-- OR C (R121). -/
def execOrC (s : State) : Host.Outcome State Fault Refusal :=
  finish (.primary 0xB1) (aluStep .or (.operand (.reg .c)) s)

/-- OR D (R121). -/
def execOrD (s : State) : Host.Outcome State Fault Refusal :=
  finish (.primary 0xB2) (aluStep .or (.operand (.reg .d)) s)

/-- OR E (R121). -/
def execOrE (s : State) : Host.Outcome State Fault Refusal :=
  finish (.primary 0xB3) (aluStep .or (.operand (.reg .e)) s)

/-- OR H (R121). -/
def execOrH (s : State) : Host.Outcome State Fault Refusal :=
  finish (.primary 0xB4) (aluStep .or (.operand (.reg .h)) s)

/-- OR L (R121). -/
def execOrL (s : State) : Host.Outcome State Fault Refusal :=
  finish (.primary 0xB5) (aluStep .or (.operand (.reg .l)) s)

/-- OR (HL) (R122). -/
def execOrAtHl (s : State) : Host.Outcome State Fault Refusal := finish (.primary 0xB6) (aluStep .or (.operand .atHl) s)

/-- OR A (R121). -/
def execOrA (s : State) : Host.Outcome State Fault Refusal :=
  finish (.primary 0xB7) (aluStep .or (.operand (.reg .a)) s)

/-- CP B (R124). -/
def execCpB (s : State) : Host.Outcome State Fault Refusal :=
  finish (.primary 0xB8) (aluStep .cp (.operand (.reg .b)) s)

/-- CP C (R124). -/
def execCpC (s : State) : Host.Outcome State Fault Refusal :=
  finish (.primary 0xB9) (aluStep .cp (.operand (.reg .c)) s)

/-- CP D (R124). -/
def execCpD (s : State) : Host.Outcome State Fault Refusal :=
  finish (.primary 0xBA) (aluStep .cp (.operand (.reg .d)) s)

/-- CP E (R124). -/
def execCpE (s : State) : Host.Outcome State Fault Refusal :=
  finish (.primary 0xBB) (aluStep .cp (.operand (.reg .e)) s)

/-- CP H (R124). -/
def execCpH (s : State) : Host.Outcome State Fault Refusal :=
  finish (.primary 0xBC) (aluStep .cp (.operand (.reg .h)) s)

/-- CP L (R124). -/
def execCpL (s : State) : Host.Outcome State Fault Refusal :=
  finish (.primary 0xBD) (aluStep .cp (.operand (.reg .l)) s)

/-- CP (HL) (R125). -/
def execCpAtHl (s : State) : Host.Outcome State Fault Refusal := finish (.primary 0xBE) (aluStep .cp (.operand .atHl) s)

/-- CP A (R124). -/
def execCpA (s : State) : Host.Outcome State Fault Refusal :=
  finish (.primary 0xBF) (aluStep .cp (.operand (.reg .a)) s)

/-- ADD A,d8 (R105). -/
def execAddAD8 (n : Byte) (s : State) : Host.Outcome State Fault Refusal :=
  finish (.primary 0xC6) (aluStep .add (.imm n) s)

/-- ADC A,d8 (R108). -/
def execAdcAD8 (n : Byte) (s : State) : Host.Outcome State Fault Refusal :=
  finish (.primary 0xCE) (aluStep .adc (.imm n) s)

/-- SUB d8 (R111). -/
def execSubD8 (n : Byte) (s : State) : Host.Outcome State Fault Refusal :=
  finish (.primary 0xD6) (aluStep .sub (.imm n) s)

/-- SBC A,d8 (R114). -/
def execSbcAD8 (n : Byte) (s : State) : Host.Outcome State Fault Refusal :=
  finish (.primary 0xDE) (aluStep .sbc (.imm n) s)

/-- AND d8 (R117). -/
def execAndD8 (n : Byte) (s : State) : Host.Outcome State Fault Refusal :=
  finish (.primary 0xE6) (aluStep .and (.imm n) s)

/-- XOR d8 (R120). -/
def execXorD8 (n : Byte) (s : State) : Host.Outcome State Fault Refusal :=
  finish (.primary 0xEE) (aluStep .xor (.imm n) s)

/-- OR d8 (R123). -/
def execOrD8 (n : Byte) (s : State) : Host.Outcome State Fault Refusal :=
  finish (.primary 0xF6) (aluStep .or (.imm n) s)

/-- CP d8 (R126). -/
def execCpD8 (n : Byte) (s : State) : Host.Outcome State Fault Refusal :=
  finish (.primary 0xFE) (aluStep .cp (.imm n) s)

end Sys2Proof.Machine
end

