-- ==== Sys2Proof/Machine/Alu16.lean ====
section
/-! DEFINITION. Sys2Proof/Machine/Alu16.lean: 16-bit arithmetic (spec/43_alu16.md R135 to R139). -/

namespace Sys2Proof.Machine

/-- ADD HL,rr: HL and the flags N, H, C; Z kept (R135). -/
def addHlStep (p : R16) (s : State) : State :=
  let r := addHlResult s.hl (s.pair p) s.flagZ
  setResultFlags r (s.setHl r.res)

/-- SP plus a signed offset into SP (R138) or HL (R139), with the flags of the low-byte addition. -/
def spPlusInto (p : R16) (e : Byte) (s : State) : State :=
  let r := addSpResult s.sp e
  setResultFlags r (s.setPair p r.res)

/-- INC BC (R136). -/
def execIncBc (s : State) : Host.Outcome State Fault Refusal := finish (.primary 0x03) (s.setPair .bc (s.pair .bc + 1))

/-- ADD HL,BC (R135). -/
def execAddHlBc (s : State) : Host.Outcome State Fault Refusal := finish (.primary 0x09) (addHlStep .bc s)

/-- DEC BC (R137). -/
def execDecBc (s : State) : Host.Outcome State Fault Refusal := finish (.primary 0x0B) (s.setPair .bc (s.pair .bc - 1))

/-- INC DE (R136). -/
def execIncDe (s : State) : Host.Outcome State Fault Refusal := finish (.primary 0x13) (s.setPair .de (s.pair .de + 1))

/-- ADD HL,DE (R135). -/
def execAddHlDe (s : State) : Host.Outcome State Fault Refusal := finish (.primary 0x19) (addHlStep .de s)

/-- DEC DE (R137). -/
def execDecDe (s : State) : Host.Outcome State Fault Refusal := finish (.primary 0x1B) (s.setPair .de (s.pair .de - 1))

/-- INC HL (R136). -/
def execIncHl (s : State) : Host.Outcome State Fault Refusal := finish (.primary 0x23) (s.setPair .hl (s.pair .hl + 1))

/-- ADD HL,HL (R135). -/
def execAddHlHl (s : State) : Host.Outcome State Fault Refusal := finish (.primary 0x29) (addHlStep .hl s)

/-- DEC HL (R137). -/
def execDecHl (s : State) : Host.Outcome State Fault Refusal := finish (.primary 0x2B) (s.setPair .hl (s.pair .hl - 1))

/-- INC SP (R136). -/
def execIncSp (s : State) : Host.Outcome State Fault Refusal := finish (.primary 0x33) (s.setPair .sp (s.pair .sp + 1))

/-- ADD HL,SP (R135). -/
def execAddHlSp (s : State) : Host.Outcome State Fault Refusal := finish (.primary 0x39) (addHlStep .sp s)

/-- DEC SP (R137). -/
def execDecSp (s : State) : Host.Outcome State Fault Refusal := finish (.primary 0x3B) (s.setPair .sp (s.pair .sp - 1))

/-- ADD SP,e8 (R138). -/
def execAddSpE8 (e : Byte) (s : State) : Host.Outcome State Fault Refusal := finish (.primary 0xE8) (spPlusInto .sp e s)

/-- LD HL,SP+e8 (R139). -/
def execLdHlSpE8 (e : Byte) (s : State) : Host.Outcome State Fault Refusal :=
  finish (.primary 0xF8) (spPlusInto .hl e s)

end Sys2Proof.Machine
end

