-- ==== Sys2Proof/Machine/Bits.lean ====
section
/-! DEFINITION. Sys2Proof/Machine/Bits.lean: single-bit operations (spec/44_rotate_bit.md R169 to R174). -/

namespace Sys2Proof.Machine

/-- BIT b: Z from the bit, N clear, H set, C kept; nothing else written (R169, R170). -/
def bitTestStep (b : Fin 8) (o : Operand8) (s : State) : State :=
  (s.afterOperand o).setFlags (!(s.operand o).getLsbD b) false true s.flagC

/-- RES b: the bit cleared, no flag written (R171, R172). -/
def bitResStep (b : Fin 8) (o : Operand8) (s : State) : State :=
  (s.afterOperand o).setOperand o (s.operand o &&& ~~~bitMask b)

/-- SET b: the bit set, no flag written (R173, R174). -/
def bitSetStep (b : Fin 8) (o : Operand8) (s : State) : State :=
  (s.afterOperand o).setOperand o (s.operand o ||| bitMask b)

/-- BIT 0,B (R169). -/
def execBit0B (s : State) : Host.Outcome State Fault Refusal := finish (.secondary 0x40) (bitTestStep 0 (.reg .b) s)

/-- BIT 0,C (R169). -/
def execBit0C (s : State) : Host.Outcome State Fault Refusal := finish (.secondary 0x41) (bitTestStep 0 (.reg .c) s)

/-- BIT 0,D (R169). -/
def execBit0D (s : State) : Host.Outcome State Fault Refusal := finish (.secondary 0x42) (bitTestStep 0 (.reg .d) s)

/-- BIT 0,E (R169). -/
def execBit0E (s : State) : Host.Outcome State Fault Refusal := finish (.secondary 0x43) (bitTestStep 0 (.reg .e) s)

/-- BIT 0,H (R169). -/
def execBit0H (s : State) : Host.Outcome State Fault Refusal := finish (.secondary 0x44) (bitTestStep 0 (.reg .h) s)

/-- BIT 0,L (R169). -/
def execBit0L (s : State) : Host.Outcome State Fault Refusal := finish (.secondary 0x45) (bitTestStep 0 (.reg .l) s)

/-- BIT 0,(HL) (R170). -/
def execBit0AtHl (s : State) : Host.Outcome State Fault Refusal := finish (.secondary 0x46) (bitTestStep 0 .atHl s)

/-- BIT 0,A (R169). -/
def execBit0A (s : State) : Host.Outcome State Fault Refusal := finish (.secondary 0x47) (bitTestStep 0 (.reg .a) s)

/-- BIT 1,B (R169). -/
def execBit1B (s : State) : Host.Outcome State Fault Refusal := finish (.secondary 0x48) (bitTestStep 1 (.reg .b) s)

/-- BIT 1,C (R169). -/
def execBit1C (s : State) : Host.Outcome State Fault Refusal := finish (.secondary 0x49) (bitTestStep 1 (.reg .c) s)

/-- BIT 1,D (R169). -/
def execBit1D (s : State) : Host.Outcome State Fault Refusal := finish (.secondary 0x4A) (bitTestStep 1 (.reg .d) s)

/-- BIT 1,E (R169). -/
def execBit1E (s : State) : Host.Outcome State Fault Refusal := finish (.secondary 0x4B) (bitTestStep 1 (.reg .e) s)

/-- BIT 1,H (R169). -/
def execBit1H (s : State) : Host.Outcome State Fault Refusal := finish (.secondary 0x4C) (bitTestStep 1 (.reg .h) s)

/-- BIT 1,L (R169). -/
def execBit1L (s : State) : Host.Outcome State Fault Refusal := finish (.secondary 0x4D) (bitTestStep 1 (.reg .l) s)

/-- BIT 1,(HL) (R170). -/
def execBit1AtHl (s : State) : Host.Outcome State Fault Refusal := finish (.secondary 0x4E) (bitTestStep 1 .atHl s)

/-- BIT 1,A (R169). -/
def execBit1A (s : State) : Host.Outcome State Fault Refusal := finish (.secondary 0x4F) (bitTestStep 1 (.reg .a) s)

/-- BIT 2,B (R169). -/
def execBit2B (s : State) : Host.Outcome State Fault Refusal := finish (.secondary 0x50) (bitTestStep 2 (.reg .b) s)

/-- BIT 2,C (R169). -/
def execBit2C (s : State) : Host.Outcome State Fault Refusal := finish (.secondary 0x51) (bitTestStep 2 (.reg .c) s)

/-- BIT 2,D (R169). -/
def execBit2D (s : State) : Host.Outcome State Fault Refusal := finish (.secondary 0x52) (bitTestStep 2 (.reg .d) s)

/-- BIT 2,E (R169). -/
def execBit2E (s : State) : Host.Outcome State Fault Refusal := finish (.secondary 0x53) (bitTestStep 2 (.reg .e) s)

/-- BIT 2,H (R169). -/
def execBit2H (s : State) : Host.Outcome State Fault Refusal := finish (.secondary 0x54) (bitTestStep 2 (.reg .h) s)

/-- BIT 2,L (R169). -/
def execBit2L (s : State) : Host.Outcome State Fault Refusal := finish (.secondary 0x55) (bitTestStep 2 (.reg .l) s)

/-- BIT 2,(HL) (R170). -/
def execBit2AtHl (s : State) : Host.Outcome State Fault Refusal := finish (.secondary 0x56) (bitTestStep 2 .atHl s)

/-- BIT 2,A (R169). -/
def execBit2A (s : State) : Host.Outcome State Fault Refusal := finish (.secondary 0x57) (bitTestStep 2 (.reg .a) s)

/-- BIT 3,B (R169). -/
def execBit3B (s : State) : Host.Outcome State Fault Refusal := finish (.secondary 0x58) (bitTestStep 3 (.reg .b) s)

/-- BIT 3,C (R169). -/
def execBit3C (s : State) : Host.Outcome State Fault Refusal := finish (.secondary 0x59) (bitTestStep 3 (.reg .c) s)

/-- BIT 3,D (R169). -/
def execBit3D (s : State) : Host.Outcome State Fault Refusal := finish (.secondary 0x5A) (bitTestStep 3 (.reg .d) s)

/-- BIT 3,E (R169). -/
def execBit3E (s : State) : Host.Outcome State Fault Refusal := finish (.secondary 0x5B) (bitTestStep 3 (.reg .e) s)

/-- BIT 3,H (R169). -/
def execBit3H (s : State) : Host.Outcome State Fault Refusal := finish (.secondary 0x5C) (bitTestStep 3 (.reg .h) s)

/-- BIT 3,L (R169). -/
def execBit3L (s : State) : Host.Outcome State Fault Refusal := finish (.secondary 0x5D) (bitTestStep 3 (.reg .l) s)

/-- BIT 3,(HL) (R170). -/
def execBit3AtHl (s : State) : Host.Outcome State Fault Refusal := finish (.secondary 0x5E) (bitTestStep 3 .atHl s)

/-- BIT 3,A (R169). -/
def execBit3A (s : State) : Host.Outcome State Fault Refusal := finish (.secondary 0x5F) (bitTestStep 3 (.reg .a) s)

/-- BIT 4,B (R169). -/
def execBit4B (s : State) : Host.Outcome State Fault Refusal := finish (.secondary 0x60) (bitTestStep 4 (.reg .b) s)

/-- BIT 4,C (R169). -/
def execBit4C (s : State) : Host.Outcome State Fault Refusal := finish (.secondary 0x61) (bitTestStep 4 (.reg .c) s)

/-- BIT 4,D (R169). -/
def execBit4D (s : State) : Host.Outcome State Fault Refusal := finish (.secondary 0x62) (bitTestStep 4 (.reg .d) s)

/-- BIT 4,E (R169). -/
def execBit4E (s : State) : Host.Outcome State Fault Refusal := finish (.secondary 0x63) (bitTestStep 4 (.reg .e) s)

/-- BIT 4,H (R169). -/
def execBit4H (s : State) : Host.Outcome State Fault Refusal := finish (.secondary 0x64) (bitTestStep 4 (.reg .h) s)

/-- BIT 4,L (R169). -/
def execBit4L (s : State) : Host.Outcome State Fault Refusal := finish (.secondary 0x65) (bitTestStep 4 (.reg .l) s)

/-- BIT 4,(HL) (R170). -/
def execBit4AtHl (s : State) : Host.Outcome State Fault Refusal := finish (.secondary 0x66) (bitTestStep 4 .atHl s)

/-- BIT 4,A (R169). -/
def execBit4A (s : State) : Host.Outcome State Fault Refusal := finish (.secondary 0x67) (bitTestStep 4 (.reg .a) s)

/-- BIT 5,B (R169). -/
def execBit5B (s : State) : Host.Outcome State Fault Refusal := finish (.secondary 0x68) (bitTestStep 5 (.reg .b) s)

/-- BIT 5,C (R169). -/
def execBit5C (s : State) : Host.Outcome State Fault Refusal := finish (.secondary 0x69) (bitTestStep 5 (.reg .c) s)

/-- BIT 5,D (R169). -/
def execBit5D (s : State) : Host.Outcome State Fault Refusal := finish (.secondary 0x6A) (bitTestStep 5 (.reg .d) s)

/-- BIT 5,E (R169). -/
def execBit5E (s : State) : Host.Outcome State Fault Refusal := finish (.secondary 0x6B) (bitTestStep 5 (.reg .e) s)

/-- BIT 5,H (R169). -/
def execBit5H (s : State) : Host.Outcome State Fault Refusal := finish (.secondary 0x6C) (bitTestStep 5 (.reg .h) s)

/-- BIT 5,L (R169). -/
def execBit5L (s : State) : Host.Outcome State Fault Refusal := finish (.secondary 0x6D) (bitTestStep 5 (.reg .l) s)

/-- BIT 5,(HL) (R170). -/
def execBit5AtHl (s : State) : Host.Outcome State Fault Refusal := finish (.secondary 0x6E) (bitTestStep 5 .atHl s)

/-- BIT 5,A (R169). -/
def execBit5A (s : State) : Host.Outcome State Fault Refusal := finish (.secondary 0x6F) (bitTestStep 5 (.reg .a) s)

/-- BIT 6,B (R169). -/
def execBit6B (s : State) : Host.Outcome State Fault Refusal := finish (.secondary 0x70) (bitTestStep 6 (.reg .b) s)

/-- BIT 6,C (R169). -/
def execBit6C (s : State) : Host.Outcome State Fault Refusal := finish (.secondary 0x71) (bitTestStep 6 (.reg .c) s)

/-- BIT 6,D (R169). -/
def execBit6D (s : State) : Host.Outcome State Fault Refusal := finish (.secondary 0x72) (bitTestStep 6 (.reg .d) s)

/-- BIT 6,E (R169). -/
def execBit6E (s : State) : Host.Outcome State Fault Refusal := finish (.secondary 0x73) (bitTestStep 6 (.reg .e) s)

/-- BIT 6,H (R169). -/
def execBit6H (s : State) : Host.Outcome State Fault Refusal := finish (.secondary 0x74) (bitTestStep 6 (.reg .h) s)

/-- BIT 6,L (R169). -/
def execBit6L (s : State) : Host.Outcome State Fault Refusal := finish (.secondary 0x75) (bitTestStep 6 (.reg .l) s)

/-- BIT 6,(HL) (R170). -/
def execBit6AtHl (s : State) : Host.Outcome State Fault Refusal := finish (.secondary 0x76) (bitTestStep 6 .atHl s)

/-- BIT 6,A (R169). -/
def execBit6A (s : State) : Host.Outcome State Fault Refusal := finish (.secondary 0x77) (bitTestStep 6 (.reg .a) s)

/-- BIT 7,B (R169). -/
def execBit7B (s : State) : Host.Outcome State Fault Refusal := finish (.secondary 0x78) (bitTestStep 7 (.reg .b) s)

/-- BIT 7,C (R169). -/
def execBit7C (s : State) : Host.Outcome State Fault Refusal := finish (.secondary 0x79) (bitTestStep 7 (.reg .c) s)

/-- BIT 7,D (R169). -/
def execBit7D (s : State) : Host.Outcome State Fault Refusal := finish (.secondary 0x7A) (bitTestStep 7 (.reg .d) s)

/-- BIT 7,E (R169). -/
def execBit7E (s : State) : Host.Outcome State Fault Refusal := finish (.secondary 0x7B) (bitTestStep 7 (.reg .e) s)

/-- BIT 7,H (R169). -/
def execBit7H (s : State) : Host.Outcome State Fault Refusal := finish (.secondary 0x7C) (bitTestStep 7 (.reg .h) s)

/-- BIT 7,L (R169). -/
def execBit7L (s : State) : Host.Outcome State Fault Refusal := finish (.secondary 0x7D) (bitTestStep 7 (.reg .l) s)

/-- BIT 7,(HL) (R170). -/
def execBit7AtHl (s : State) : Host.Outcome State Fault Refusal := finish (.secondary 0x7E) (bitTestStep 7 .atHl s)

/-- BIT 7,A (R169). -/
def execBit7A (s : State) : Host.Outcome State Fault Refusal := finish (.secondary 0x7F) (bitTestStep 7 (.reg .a) s)

/-- RES 0,B (R171). -/
def execRes0B (s : State) : Host.Outcome State Fault Refusal := finish (.secondary 0x80) (bitResStep 0 (.reg .b) s)

/-- RES 0,C (R171). -/
def execRes0C (s : State) : Host.Outcome State Fault Refusal := finish (.secondary 0x81) (bitResStep 0 (.reg .c) s)

/-- RES 0,D (R171). -/
def execRes0D (s : State) : Host.Outcome State Fault Refusal := finish (.secondary 0x82) (bitResStep 0 (.reg .d) s)

/-- RES 0,E (R171). -/
def execRes0E (s : State) : Host.Outcome State Fault Refusal := finish (.secondary 0x83) (bitResStep 0 (.reg .e) s)

/-- RES 0,H (R171). -/
def execRes0H (s : State) : Host.Outcome State Fault Refusal := finish (.secondary 0x84) (bitResStep 0 (.reg .h) s)

/-- RES 0,L (R171). -/
def execRes0L (s : State) : Host.Outcome State Fault Refusal := finish (.secondary 0x85) (bitResStep 0 (.reg .l) s)

/-- RES 0,(HL) (R172). -/
def execRes0AtHl (s : State) : Host.Outcome State Fault Refusal := finish (.secondary 0x86) (bitResStep 0 .atHl s)

/-- RES 0,A (R171). -/
def execRes0A (s : State) : Host.Outcome State Fault Refusal := finish (.secondary 0x87) (bitResStep 0 (.reg .a) s)

/-- RES 1,B (R171). -/
def execRes1B (s : State) : Host.Outcome State Fault Refusal := finish (.secondary 0x88) (bitResStep 1 (.reg .b) s)

/-- RES 1,C (R171). -/
def execRes1C (s : State) : Host.Outcome State Fault Refusal := finish (.secondary 0x89) (bitResStep 1 (.reg .c) s)

/-- RES 1,D (R171). -/
def execRes1D (s : State) : Host.Outcome State Fault Refusal := finish (.secondary 0x8A) (bitResStep 1 (.reg .d) s)

/-- RES 1,E (R171). -/
def execRes1E (s : State) : Host.Outcome State Fault Refusal := finish (.secondary 0x8B) (bitResStep 1 (.reg .e) s)

/-- RES 1,H (R171). -/
def execRes1H (s : State) : Host.Outcome State Fault Refusal := finish (.secondary 0x8C) (bitResStep 1 (.reg .h) s)

/-- RES 1,L (R171). -/
def execRes1L (s : State) : Host.Outcome State Fault Refusal := finish (.secondary 0x8D) (bitResStep 1 (.reg .l) s)

/-- RES 1,(HL) (R172). -/
def execRes1AtHl (s : State) : Host.Outcome State Fault Refusal := finish (.secondary 0x8E) (bitResStep 1 .atHl s)

/-- RES 1,A (R171). -/
def execRes1A (s : State) : Host.Outcome State Fault Refusal := finish (.secondary 0x8F) (bitResStep 1 (.reg .a) s)

/-- RES 2,B (R171). -/
def execRes2B (s : State) : Host.Outcome State Fault Refusal := finish (.secondary 0x90) (bitResStep 2 (.reg .b) s)

/-- RES 2,C (R171). -/
def execRes2C (s : State) : Host.Outcome State Fault Refusal := finish (.secondary 0x91) (bitResStep 2 (.reg .c) s)

/-- RES 2,D (R171). -/
def execRes2D (s : State) : Host.Outcome State Fault Refusal := finish (.secondary 0x92) (bitResStep 2 (.reg .d) s)

/-- RES 2,E (R171). -/
def execRes2E (s : State) : Host.Outcome State Fault Refusal := finish (.secondary 0x93) (bitResStep 2 (.reg .e) s)

/-- RES 2,H (R171). -/
def execRes2H (s : State) : Host.Outcome State Fault Refusal := finish (.secondary 0x94) (bitResStep 2 (.reg .h) s)

/-- RES 2,L (R171). -/
def execRes2L (s : State) : Host.Outcome State Fault Refusal := finish (.secondary 0x95) (bitResStep 2 (.reg .l) s)

/-- RES 2,(HL) (R172). -/
def execRes2AtHl (s : State) : Host.Outcome State Fault Refusal := finish (.secondary 0x96) (bitResStep 2 .atHl s)

/-- RES 2,A (R171). -/
def execRes2A (s : State) : Host.Outcome State Fault Refusal := finish (.secondary 0x97) (bitResStep 2 (.reg .a) s)

/-- RES 3,B (R171). -/
def execRes3B (s : State) : Host.Outcome State Fault Refusal := finish (.secondary 0x98) (bitResStep 3 (.reg .b) s)

/-- RES 3,C (R171). -/
def execRes3C (s : State) : Host.Outcome State Fault Refusal := finish (.secondary 0x99) (bitResStep 3 (.reg .c) s)

/-- RES 3,D (R171). -/
def execRes3D (s : State) : Host.Outcome State Fault Refusal := finish (.secondary 0x9A) (bitResStep 3 (.reg .d) s)

/-- RES 3,E (R171). -/
def execRes3E (s : State) : Host.Outcome State Fault Refusal := finish (.secondary 0x9B) (bitResStep 3 (.reg .e) s)

/-- RES 3,H (R171). -/
def execRes3H (s : State) : Host.Outcome State Fault Refusal := finish (.secondary 0x9C) (bitResStep 3 (.reg .h) s)

/-- RES 3,L (R171). -/
def execRes3L (s : State) : Host.Outcome State Fault Refusal := finish (.secondary 0x9D) (bitResStep 3 (.reg .l) s)

/-- RES 3,(HL) (R172). -/
def execRes3AtHl (s : State) : Host.Outcome State Fault Refusal := finish (.secondary 0x9E) (bitResStep 3 .atHl s)

/-- RES 3,A (R171). -/
def execRes3A (s : State) : Host.Outcome State Fault Refusal := finish (.secondary 0x9F) (bitResStep 3 (.reg .a) s)

/-- RES 4,B (R171). -/
def execRes4B (s : State) : Host.Outcome State Fault Refusal := finish (.secondary 0xA0) (bitResStep 4 (.reg .b) s)

/-- RES 4,C (R171). -/
def execRes4C (s : State) : Host.Outcome State Fault Refusal := finish (.secondary 0xA1) (bitResStep 4 (.reg .c) s)

/-- RES 4,D (R171). -/
def execRes4D (s : State) : Host.Outcome State Fault Refusal := finish (.secondary 0xA2) (bitResStep 4 (.reg .d) s)

/-- RES 4,E (R171). -/
def execRes4E (s : State) : Host.Outcome State Fault Refusal := finish (.secondary 0xA3) (bitResStep 4 (.reg .e) s)

/-- RES 4,H (R171). -/
def execRes4H (s : State) : Host.Outcome State Fault Refusal := finish (.secondary 0xA4) (bitResStep 4 (.reg .h) s)

/-- RES 4,L (R171). -/
def execRes4L (s : State) : Host.Outcome State Fault Refusal := finish (.secondary 0xA5) (bitResStep 4 (.reg .l) s)

/-- RES 4,(HL) (R172). -/
def execRes4AtHl (s : State) : Host.Outcome State Fault Refusal := finish (.secondary 0xA6) (bitResStep 4 .atHl s)

/-- RES 4,A (R171). -/
def execRes4A (s : State) : Host.Outcome State Fault Refusal := finish (.secondary 0xA7) (bitResStep 4 (.reg .a) s)

/-- RES 5,B (R171). -/
def execRes5B (s : State) : Host.Outcome State Fault Refusal := finish (.secondary 0xA8) (bitResStep 5 (.reg .b) s)

/-- RES 5,C (R171). -/
def execRes5C (s : State) : Host.Outcome State Fault Refusal := finish (.secondary 0xA9) (bitResStep 5 (.reg .c) s)

/-- RES 5,D (R171). -/
def execRes5D (s : State) : Host.Outcome State Fault Refusal := finish (.secondary 0xAA) (bitResStep 5 (.reg .d) s)

/-- RES 5,E (R171). -/
def execRes5E (s : State) : Host.Outcome State Fault Refusal := finish (.secondary 0xAB) (bitResStep 5 (.reg .e) s)

/-- RES 5,H (R171). -/
def execRes5H (s : State) : Host.Outcome State Fault Refusal := finish (.secondary 0xAC) (bitResStep 5 (.reg .h) s)

/-- RES 5,L (R171). -/
def execRes5L (s : State) : Host.Outcome State Fault Refusal := finish (.secondary 0xAD) (bitResStep 5 (.reg .l) s)

/-- RES 5,(HL) (R172). -/
def execRes5AtHl (s : State) : Host.Outcome State Fault Refusal := finish (.secondary 0xAE) (bitResStep 5 .atHl s)

/-- RES 5,A (R171). -/
def execRes5A (s : State) : Host.Outcome State Fault Refusal := finish (.secondary 0xAF) (bitResStep 5 (.reg .a) s)

/-- RES 6,B (R171). -/
def execRes6B (s : State) : Host.Outcome State Fault Refusal := finish (.secondary 0xB0) (bitResStep 6 (.reg .b) s)

/-- RES 6,C (R171). -/
def execRes6C (s : State) : Host.Outcome State Fault Refusal := finish (.secondary 0xB1) (bitResStep 6 (.reg .c) s)

/-- RES 6,D (R171). -/
def execRes6D (s : State) : Host.Outcome State Fault Refusal := finish (.secondary 0xB2) (bitResStep 6 (.reg .d) s)

/-- RES 6,E (R171). -/
def execRes6E (s : State) : Host.Outcome State Fault Refusal := finish (.secondary 0xB3) (bitResStep 6 (.reg .e) s)

/-- RES 6,H (R171). -/
def execRes6H (s : State) : Host.Outcome State Fault Refusal := finish (.secondary 0xB4) (bitResStep 6 (.reg .h) s)

/-- RES 6,L (R171). -/
def execRes6L (s : State) : Host.Outcome State Fault Refusal := finish (.secondary 0xB5) (bitResStep 6 (.reg .l) s)

/-- RES 6,(HL) (R172). -/
def execRes6AtHl (s : State) : Host.Outcome State Fault Refusal := finish (.secondary 0xB6) (bitResStep 6 .atHl s)

/-- RES 6,A (R171). -/
def execRes6A (s : State) : Host.Outcome State Fault Refusal := finish (.secondary 0xB7) (bitResStep 6 (.reg .a) s)

/-- RES 7,B (R171). -/
def execRes7B (s : State) : Host.Outcome State Fault Refusal := finish (.secondary 0xB8) (bitResStep 7 (.reg .b) s)

/-- RES 7,C (R171). -/
def execRes7C (s : State) : Host.Outcome State Fault Refusal := finish (.secondary 0xB9) (bitResStep 7 (.reg .c) s)

/-- RES 7,D (R171). -/
def execRes7D (s : State) : Host.Outcome State Fault Refusal := finish (.secondary 0xBA) (bitResStep 7 (.reg .d) s)

/-- RES 7,E (R171). -/
def execRes7E (s : State) : Host.Outcome State Fault Refusal := finish (.secondary 0xBB) (bitResStep 7 (.reg .e) s)

/-- RES 7,H (R171). -/
def execRes7H (s : State) : Host.Outcome State Fault Refusal := finish (.secondary 0xBC) (bitResStep 7 (.reg .h) s)

/-- RES 7,L (R171). -/
def execRes7L (s : State) : Host.Outcome State Fault Refusal := finish (.secondary 0xBD) (bitResStep 7 (.reg .l) s)

/-- RES 7,(HL) (R172). -/
def execRes7AtHl (s : State) : Host.Outcome State Fault Refusal := finish (.secondary 0xBE) (bitResStep 7 .atHl s)

/-- RES 7,A (R171). -/
def execRes7A (s : State) : Host.Outcome State Fault Refusal := finish (.secondary 0xBF) (bitResStep 7 (.reg .a) s)

/-- SET 0,B (R173). -/
def execSet0B (s : State) : Host.Outcome State Fault Refusal := finish (.secondary 0xC0) (bitSetStep 0 (.reg .b) s)

/-- SET 0,C (R173). -/
def execSet0C (s : State) : Host.Outcome State Fault Refusal := finish (.secondary 0xC1) (bitSetStep 0 (.reg .c) s)

/-- SET 0,D (R173). -/
def execSet0D (s : State) : Host.Outcome State Fault Refusal := finish (.secondary 0xC2) (bitSetStep 0 (.reg .d) s)

/-- SET 0,E (R173). -/
def execSet0E (s : State) : Host.Outcome State Fault Refusal := finish (.secondary 0xC3) (bitSetStep 0 (.reg .e) s)

/-- SET 0,H (R173). -/
def execSet0H (s : State) : Host.Outcome State Fault Refusal := finish (.secondary 0xC4) (bitSetStep 0 (.reg .h) s)

/-- SET 0,L (R173). -/
def execSet0L (s : State) : Host.Outcome State Fault Refusal := finish (.secondary 0xC5) (bitSetStep 0 (.reg .l) s)

/-- SET 0,(HL) (R174). -/
def execSet0AtHl (s : State) : Host.Outcome State Fault Refusal := finish (.secondary 0xC6) (bitSetStep 0 .atHl s)

/-- SET 0,A (R173). -/
def execSet0A (s : State) : Host.Outcome State Fault Refusal := finish (.secondary 0xC7) (bitSetStep 0 (.reg .a) s)

/-- SET 1,B (R173). -/
def execSet1B (s : State) : Host.Outcome State Fault Refusal := finish (.secondary 0xC8) (bitSetStep 1 (.reg .b) s)

/-- SET 1,C (R173). -/
def execSet1C (s : State) : Host.Outcome State Fault Refusal := finish (.secondary 0xC9) (bitSetStep 1 (.reg .c) s)

/-- SET 1,D (R173). -/
def execSet1D (s : State) : Host.Outcome State Fault Refusal := finish (.secondary 0xCA) (bitSetStep 1 (.reg .d) s)

/-- SET 1,E (R173). -/
def execSet1E (s : State) : Host.Outcome State Fault Refusal := finish (.secondary 0xCB) (bitSetStep 1 (.reg .e) s)

/-- SET 1,H (R173). -/
def execSet1H (s : State) : Host.Outcome State Fault Refusal := finish (.secondary 0xCC) (bitSetStep 1 (.reg .h) s)

/-- SET 1,L (R173). -/
def execSet1L (s : State) : Host.Outcome State Fault Refusal := finish (.secondary 0xCD) (bitSetStep 1 (.reg .l) s)

/-- SET 1,(HL) (R174). -/
def execSet1AtHl (s : State) : Host.Outcome State Fault Refusal := finish (.secondary 0xCE) (bitSetStep 1 .atHl s)

/-- SET 1,A (R173). -/
def execSet1A (s : State) : Host.Outcome State Fault Refusal := finish (.secondary 0xCF) (bitSetStep 1 (.reg .a) s)

/-- SET 2,B (R173). -/
def execSet2B (s : State) : Host.Outcome State Fault Refusal := finish (.secondary 0xD0) (bitSetStep 2 (.reg .b) s)

/-- SET 2,C (R173). -/
def execSet2C (s : State) : Host.Outcome State Fault Refusal := finish (.secondary 0xD1) (bitSetStep 2 (.reg .c) s)

/-- SET 2,D (R173). -/
def execSet2D (s : State) : Host.Outcome State Fault Refusal := finish (.secondary 0xD2) (bitSetStep 2 (.reg .d) s)

/-- SET 2,E (R173). -/
def execSet2E (s : State) : Host.Outcome State Fault Refusal := finish (.secondary 0xD3) (bitSetStep 2 (.reg .e) s)

/-- SET 2,H (R173). -/
def execSet2H (s : State) : Host.Outcome State Fault Refusal := finish (.secondary 0xD4) (bitSetStep 2 (.reg .h) s)

/-- SET 2,L (R173). -/
def execSet2L (s : State) : Host.Outcome State Fault Refusal := finish (.secondary 0xD5) (bitSetStep 2 (.reg .l) s)

/-- SET 2,(HL) (R174). -/
def execSet2AtHl (s : State) : Host.Outcome State Fault Refusal := finish (.secondary 0xD6) (bitSetStep 2 .atHl s)

/-- SET 2,A (R173). -/
def execSet2A (s : State) : Host.Outcome State Fault Refusal := finish (.secondary 0xD7) (bitSetStep 2 (.reg .a) s)

/-- SET 3,B (R173). -/
def execSet3B (s : State) : Host.Outcome State Fault Refusal := finish (.secondary 0xD8) (bitSetStep 3 (.reg .b) s)

/-- SET 3,C (R173). -/
def execSet3C (s : State) : Host.Outcome State Fault Refusal := finish (.secondary 0xD9) (bitSetStep 3 (.reg .c) s)

/-- SET 3,D (R173). -/
def execSet3D (s : State) : Host.Outcome State Fault Refusal := finish (.secondary 0xDA) (bitSetStep 3 (.reg .d) s)

/-- SET 3,E (R173). -/
def execSet3E (s : State) : Host.Outcome State Fault Refusal := finish (.secondary 0xDB) (bitSetStep 3 (.reg .e) s)

/-- SET 3,H (R173). -/
def execSet3H (s : State) : Host.Outcome State Fault Refusal := finish (.secondary 0xDC) (bitSetStep 3 (.reg .h) s)

/-- SET 3,L (R173). -/
def execSet3L (s : State) : Host.Outcome State Fault Refusal := finish (.secondary 0xDD) (bitSetStep 3 (.reg .l) s)

/-- SET 3,(HL) (R174). -/
def execSet3AtHl (s : State) : Host.Outcome State Fault Refusal := finish (.secondary 0xDE) (bitSetStep 3 .atHl s)

/-- SET 3,A (R173). -/
def execSet3A (s : State) : Host.Outcome State Fault Refusal := finish (.secondary 0xDF) (bitSetStep 3 (.reg .a) s)

/-- SET 4,B (R173). -/
def execSet4B (s : State) : Host.Outcome State Fault Refusal := finish (.secondary 0xE0) (bitSetStep 4 (.reg .b) s)

/-- SET 4,C (R173). -/
def execSet4C (s : State) : Host.Outcome State Fault Refusal := finish (.secondary 0xE1) (bitSetStep 4 (.reg .c) s)

/-- SET 4,D (R173). -/
def execSet4D (s : State) : Host.Outcome State Fault Refusal := finish (.secondary 0xE2) (bitSetStep 4 (.reg .d) s)

/-- SET 4,E (R173). -/
def execSet4E (s : State) : Host.Outcome State Fault Refusal := finish (.secondary 0xE3) (bitSetStep 4 (.reg .e) s)

/-- SET 4,H (R173). -/
def execSet4H (s : State) : Host.Outcome State Fault Refusal := finish (.secondary 0xE4) (bitSetStep 4 (.reg .h) s)

/-- SET 4,L (R173). -/
def execSet4L (s : State) : Host.Outcome State Fault Refusal := finish (.secondary 0xE5) (bitSetStep 4 (.reg .l) s)

/-- SET 4,(HL) (R174). -/
def execSet4AtHl (s : State) : Host.Outcome State Fault Refusal := finish (.secondary 0xE6) (bitSetStep 4 .atHl s)

/-- SET 4,A (R173). -/
def execSet4A (s : State) : Host.Outcome State Fault Refusal := finish (.secondary 0xE7) (bitSetStep 4 (.reg .a) s)

/-- SET 5,B (R173). -/
def execSet5B (s : State) : Host.Outcome State Fault Refusal := finish (.secondary 0xE8) (bitSetStep 5 (.reg .b) s)

/-- SET 5,C (R173). -/
def execSet5C (s : State) : Host.Outcome State Fault Refusal := finish (.secondary 0xE9) (bitSetStep 5 (.reg .c) s)

/-- SET 5,D (R173). -/
def execSet5D (s : State) : Host.Outcome State Fault Refusal := finish (.secondary 0xEA) (bitSetStep 5 (.reg .d) s)

/-- SET 5,E (R173). -/
def execSet5E (s : State) : Host.Outcome State Fault Refusal := finish (.secondary 0xEB) (bitSetStep 5 (.reg .e) s)

/-- SET 5,H (R173). -/
def execSet5H (s : State) : Host.Outcome State Fault Refusal := finish (.secondary 0xEC) (bitSetStep 5 (.reg .h) s)

/-- SET 5,L (R173). -/
def execSet5L (s : State) : Host.Outcome State Fault Refusal := finish (.secondary 0xED) (bitSetStep 5 (.reg .l) s)

/-- SET 5,(HL) (R174). -/
def execSet5AtHl (s : State) : Host.Outcome State Fault Refusal := finish (.secondary 0xEE) (bitSetStep 5 .atHl s)

/-- SET 5,A (R173). -/
def execSet5A (s : State) : Host.Outcome State Fault Refusal := finish (.secondary 0xEF) (bitSetStep 5 (.reg .a) s)

/-- SET 6,B (R173). -/
def execSet6B (s : State) : Host.Outcome State Fault Refusal := finish (.secondary 0xF0) (bitSetStep 6 (.reg .b) s)

/-- SET 6,C (R173). -/
def execSet6C (s : State) : Host.Outcome State Fault Refusal := finish (.secondary 0xF1) (bitSetStep 6 (.reg .c) s)

/-- SET 6,D (R173). -/
def execSet6D (s : State) : Host.Outcome State Fault Refusal := finish (.secondary 0xF2) (bitSetStep 6 (.reg .d) s)

/-- SET 6,E (R173). -/
def execSet6E (s : State) : Host.Outcome State Fault Refusal := finish (.secondary 0xF3) (bitSetStep 6 (.reg .e) s)

/-- SET 6,H (R173). -/
def execSet6H (s : State) : Host.Outcome State Fault Refusal := finish (.secondary 0xF4) (bitSetStep 6 (.reg .h) s)

/-- SET 6,L (R173). -/
def execSet6L (s : State) : Host.Outcome State Fault Refusal := finish (.secondary 0xF5) (bitSetStep 6 (.reg .l) s)

/-- SET 6,(HL) (R174). -/
def execSet6AtHl (s : State) : Host.Outcome State Fault Refusal := finish (.secondary 0xF6) (bitSetStep 6 .atHl s)

/-- SET 6,A (R173). -/
def execSet6A (s : State) : Host.Outcome State Fault Refusal := finish (.secondary 0xF7) (bitSetStep 6 (.reg .a) s)

/-- SET 7,B (R173). -/
def execSet7B (s : State) : Host.Outcome State Fault Refusal := finish (.secondary 0xF8) (bitSetStep 7 (.reg .b) s)

/-- SET 7,C (R173). -/
def execSet7C (s : State) : Host.Outcome State Fault Refusal := finish (.secondary 0xF9) (bitSetStep 7 (.reg .c) s)

/-- SET 7,D (R173). -/
def execSet7D (s : State) : Host.Outcome State Fault Refusal := finish (.secondary 0xFA) (bitSetStep 7 (.reg .d) s)

/-- SET 7,E (R173). -/
def execSet7E (s : State) : Host.Outcome State Fault Refusal := finish (.secondary 0xFB) (bitSetStep 7 (.reg .e) s)

/-- SET 7,H (R173). -/
def execSet7H (s : State) : Host.Outcome State Fault Refusal := finish (.secondary 0xFC) (bitSetStep 7 (.reg .h) s)

/-- SET 7,L (R173). -/
def execSet7L (s : State) : Host.Outcome State Fault Refusal := finish (.secondary 0xFD) (bitSetStep 7 (.reg .l) s)

/-- SET 7,(HL) (R174). -/
def execSet7AtHl (s : State) : Host.Outcome State Fault Refusal := finish (.secondary 0xFE) (bitSetStep 7 .atHl s)

/-- SET 7,A (R173). -/
def execSet7A (s : State) : Host.Outcome State Fault Refusal := finish (.secondary 0xFF) (bitSetStep 7 (.reg .a) s)

end Sys2Proof.Machine
end

