-- ==== Sys2Proof/Machine/Control.lean ====
section
/-! DEFINITION. Sys2Proof/Machine/Control.lean: control transfer (spec/45_control.md R175 to R186). PC is PC after: the address of the next instruction. -/

namespace Sys2Proof.Machine

/-- A conditional jump: taken, PC is the target (R176, R179). -/
def jumpIf (cc : Cond) (target : Word) (slot : OpSlot) (s : State) : Host.Outcome State Fault Refusal :=
  if s.cond cc then finish slot (s.jump target) else finishNotTaken slot s

/-- `Push16(PC); PC <- target` (R180, R182). -/
def callTo (target : Word) (s : State) : State := (s.push16 s.pc).jump target

/-- A conditional call (R181). -/
def callIf (cc : Cond) (target : Word) (slot : OpSlot) (s : State) : Host.Outcome State Fault Refusal :=
  if s.cond cc then finish slot (callTo target s) else finishNotTaken slot s

/-- `PC <- Pop16()` (R183). -/
def returnStep (s : State) : State := s.afterPop.jump s.popValue

/-- A conditional return (R184). -/
def returnIf (cc : Cond) (slot : OpSlot) (s : State) : Host.Outcome State Fault Refusal :=
  if s.cond cc then finish slot (returnStep s) else finishNotTaken slot s

/-- JR e8 (R178). -/
def execJrE8 (e : Byte) (s : State) : Host.Outcome State Fault Refusal :=
  finish (.primary 0x18) (s.jump (s.relTarget e))

/-- JR NZ,e8 (R179). -/
def execJrNzE8 (e : Byte) (s : State) : Host.Outcome State Fault Refusal := jumpIf .nz (s.relTarget e) (.primary 0x20) s

/-- JR Z,e8 (R179). -/
def execJrZE8 (e : Byte) (s : State) : Host.Outcome State Fault Refusal := jumpIf .z (s.relTarget e) (.primary 0x28) s

/-- JR NC,e8 (R179). -/
def execJrNcE8 (e : Byte) (s : State) : Host.Outcome State Fault Refusal := jumpIf .nc (s.relTarget e) (.primary 0x30) s

/-- JR C,e8 (R179). -/
def execJrCE8 (e : Byte) (s : State) : Host.Outcome State Fault Refusal := jumpIf .c (s.relTarget e) (.primary 0x38) s

/-- RET NZ (R184). -/
def execRetNz (s : State) : Host.Outcome State Fault Refusal := returnIf .nz (.primary 0xC0) s

/-- JP NZ,a16 (R176). -/
def execJpNzA16 (n : Word) (s : State) : Host.Outcome State Fault Refusal := jumpIf .nz n (.primary 0xC2) s

/-- JP a16 (R175). -/
def execJpA16 (n : Word) (s : State) : Host.Outcome State Fault Refusal := finish (.primary 0xC3) (s.jump n)

/-- CALL NZ,a16 (R181). -/
def execCallNzA16 (n : Word) (s : State) : Host.Outcome State Fault Refusal := callIf .nz n (.primary 0xC4) s

/-- RST 00H (R182). -/
def execRst00 (s : State) : Host.Outcome State Fault Refusal := finish (.primary 0xC7) (callTo 0x0000 s)

/-- RET Z (R184). -/
def execRetZ (s : State) : Host.Outcome State Fault Refusal := returnIf .z (.primary 0xC8) s

/-- RET (R183). -/
def execRet (s : State) : Host.Outcome State Fault Refusal := finish (.primary 0xC9) (returnStep s)

/-- JP Z,a16 (R176). -/
def execJpZA16 (n : Word) (s : State) : Host.Outcome State Fault Refusal := jumpIf .z n (.primary 0xCA) s

/-- CALL Z,a16 (R181). -/
def execCallZA16 (n : Word) (s : State) : Host.Outcome State Fault Refusal := callIf .z n (.primary 0xCC) s

/-- CALL a16 (R180). -/
def execCallA16 (n : Word) (s : State) : Host.Outcome State Fault Refusal := finish (.primary 0xCD) (callTo n s)

/-- RST 08H (R182). -/
def execRst08 (s : State) : Host.Outcome State Fault Refusal := finish (.primary 0xCF) (callTo 0x0008 s)

/-- RET NC (R184). -/
def execRetNc (s : State) : Host.Outcome State Fault Refusal := returnIf .nc (.primary 0xD0) s

/-- JP NC,a16 (R176). -/
def execJpNcA16 (n : Word) (s : State) : Host.Outcome State Fault Refusal := jumpIf .nc n (.primary 0xD2) s

/-- CALL NC,a16 (R181). -/
def execCallNcA16 (n : Word) (s : State) : Host.Outcome State Fault Refusal := callIf .nc n (.primary 0xD4) s

/-- RST 10H (R182). -/
def execRst10 (s : State) : Host.Outcome State Fault Refusal := finish (.primary 0xD7) (callTo 0x0010 s)

/-- RET C (R184). -/
def execRetC (s : State) : Host.Outcome State Fault Refusal := returnIf .c (.primary 0xD8) s

/-- RETI (R185). -/
def execReti (s : State) : Host.Outcome State Fault Refusal := finish (.primary 0xD9) (s.returnFromInterrupt)

/-- JP C,a16 (R176). -/
def execJpCA16 (n : Word) (s : State) : Host.Outcome State Fault Refusal := jumpIf .c n (.primary 0xDA) s

/-- CALL C,a16 (R181). -/
def execCallCA16 (n : Word) (s : State) : Host.Outcome State Fault Refusal := callIf .c n (.primary 0xDC) s

/-- RST 18H (R182). -/
def execRst18 (s : State) : Host.Outcome State Fault Refusal := finish (.primary 0xDF) (callTo 0x0018 s)

/-- RST 20H (R182). -/
def execRst20 (s : State) : Host.Outcome State Fault Refusal := finish (.primary 0xE7) (callTo 0x0020 s)

/-- JP HL (R177). -/
def execJpHl (s : State) : Host.Outcome State Fault Refusal := finish (.primary 0xE9) (s.jump s.hl)

/-- RST 28H (R182). -/
def execRst28 (s : State) : Host.Outcome State Fault Refusal := finish (.primary 0xEF) (callTo 0x0028 s)

/-- RST 30H (R182). -/
def execRst30 (s : State) : Host.Outcome State Fault Refusal := finish (.primary 0xF7) (callTo 0x0030 s)

/-- RST 38H (R182). -/
def execRst38 (s : State) : Host.Outcome State Fault Refusal := finish (.primary 0xFF) (callTo 0x0038 s)

end Sys2Proof.Machine
end

