-- ==== Sys2Proof/Machine/Load16.lean ====
section
/-! DEFINITION. Sys2Proof/Machine/Load16.lean: 16-bit loads and the stack (spec/41_load16_stack.md R88 to R93). -/

namespace Sys2Proof.Machine

/-- `r16stk[p] <- Pop16()`, AF masked (R92, R93). -/
def popPair (p : R16Stk) (s : State) : State := s.afterPop.setStkPair p s.popValue

/-- LD BC,d16 (R88). -/
def execLdBcD16 (n : Word) (s : State) : Host.Outcome State Fault Refusal := finish (.primary 0x01) (s.setPair .bc n)

/-- LD (a16),SP (R89). -/
def execLdAtA16Sp (n : Word) (s : State) : Host.Outcome State Fault Refusal :=
  finish (.primary 0x08) (s.memWrite16 n s.sp)

/-- LD DE,d16 (R88). -/
def execLdDeD16 (n : Word) (s : State) : Host.Outcome State Fault Refusal := finish (.primary 0x11) (s.setPair .de n)

/-- LD HL,d16 (R88). -/
def execLdHlD16 (n : Word) (s : State) : Host.Outcome State Fault Refusal := finish (.primary 0x21) (s.setPair .hl n)

/-- LD SP,d16 (R88). -/
def execLdSpD16 (n : Word) (s : State) : Host.Outcome State Fault Refusal := finish (.primary 0x31) (s.setPair .sp n)

/-- POP BC (R92). -/
def execPopBc (s : State) : Host.Outcome State Fault Refusal := finish (.primary 0xC1) (popPair .bc s)

/-- PUSH BC (R91). -/
def execPushBc (s : State) : Host.Outcome State Fault Refusal := finish (.primary 0xC5) (s.push16 (s.stkPair .bc))

/-- POP DE (R92). -/
def execPopDe (s : State) : Host.Outcome State Fault Refusal := finish (.primary 0xD1) (popPair .de s)

/-- PUSH DE (R91). -/
def execPushDe (s : State) : Host.Outcome State Fault Refusal := finish (.primary 0xD5) (s.push16 (s.stkPair .de))

/-- POP HL (R92). -/
def execPopHl (s : State) : Host.Outcome State Fault Refusal := finish (.primary 0xE1) (popPair .hl s)

/-- PUSH HL (R91). -/
def execPushHl (s : State) : Host.Outcome State Fault Refusal := finish (.primary 0xE5) (s.push16 (s.stkPair .hl))

/-- POP AF (R93). -/
def execPopAf (s : State) : Host.Outcome State Fault Refusal := finish (.primary 0xF1) (popPair .af s)

/-- PUSH AF (R91). -/
def execPushAf (s : State) : Host.Outcome State Fault Refusal := finish (.primary 0xF5) (s.push16 (s.stkPair .af))

/-- LD SP,HL (R90). -/
def execLdSpHl (s : State) : Host.Outcome State Fault Refusal := finish (.primary 0xF9) (s.setPair .sp s.hl)

end Sys2Proof.Machine
end

