-- ==== Sys2Proof/Machine/Load8.lean ====
section
/-! DEFINITION. Sys2Proof/Machine/Load8.lean: 8-bit loads and stores (spec/40_load8.md R67 to R85). -/

namespace Sys2Proof.Machine

/-- `r8[dst] <- r8[src]` (R67). -/
def ldReg (dst src : R8) (s : State) : State := s.setReg dst (s.reg src)

/-- `r8[dst] <- MemRead(addr)` (R69, R74 to R77, R80, R82, R84). -/
def ldRegFrom (dst : R8) (addr : Word) (s : State) : State := s.countRead.setReg dst (s.busRead addr)

/-- `MemWrite(HL, A); HL <- next` (R72, R73). -/
def storeAThenHl (next : Word) (s : State) : State := (s.memWrite s.hl s.a).setHl next

/-- `A <- MemRead(HL); HL <- next` (R74, R75). -/
def loadAThenHl (next : Word) (s : State) : State := (ldRegFrom .a s.hl s).setHl next

/-- LD (BC),A (R78). -/
def execLdAtBcA (s : State) : Host.Outcome State Fault Refusal := finish (.primary 0x02) (s.memWrite s.bc s.a)

/-- LD B,d8 (R68). -/
def execLdBD8 (n : Byte) (s : State) : Host.Outcome State Fault Refusal := finish (.primary 0x06) (s.setReg .b n)

/-- LD A,(BC) (R76). -/
def execLdAAtBc (s : State) : Host.Outcome State Fault Refusal := finish (.primary 0x0A) (ldRegFrom .a s.bc s)

/-- LD C,d8 (R68). -/
def execLdCD8 (n : Byte) (s : State) : Host.Outcome State Fault Refusal := finish (.primary 0x0E) (s.setReg .c n)

/-- LD (DE),A (R79). -/
def execLdAtDeA (s : State) : Host.Outcome State Fault Refusal := finish (.primary 0x12) (s.memWrite s.de s.a)

/-- LD D,d8 (R68). -/
def execLdDD8 (n : Byte) (s : State) : Host.Outcome State Fault Refusal := finish (.primary 0x16) (s.setReg .d n)

/-- LD A,(DE) (R77). -/
def execLdAAtDe (s : State) : Host.Outcome State Fault Refusal := finish (.primary 0x1A) (ldRegFrom .a s.de s)

/-- LD E,d8 (R68). -/
def execLdED8 (n : Byte) (s : State) : Host.Outcome State Fault Refusal := finish (.primary 0x1E) (s.setReg .e n)

/-- LD (HL+),A (R72). -/
def execLdAtHlIncA (s : State) : Host.Outcome State Fault Refusal := finish (.primary 0x22) (storeAThenHl (s.hl + 1) s)

/-- LD H,d8 (R68). -/
def execLdHD8 (n : Byte) (s : State) : Host.Outcome State Fault Refusal := finish (.primary 0x26) (s.setReg .h n)

/-- LD A,(HL+) (R74). -/
def execLdAAtHlInc (s : State) : Host.Outcome State Fault Refusal := finish (.primary 0x2A) (loadAThenHl (s.hl + 1) s)

/-- LD L,d8 (R68). -/
def execLdLD8 (n : Byte) (s : State) : Host.Outcome State Fault Refusal := finish (.primary 0x2E) (s.setReg .l n)

/-- LD (HL-),A (R73). -/
def execLdAtHlDecA (s : State) : Host.Outcome State Fault Refusal := finish (.primary 0x32) (storeAThenHl (s.hl - 1) s)

/-- LD (HL),d8 (R71). -/
def execLdAtHlD8 (n : Byte) (s : State) : Host.Outcome State Fault Refusal := finish (.primary 0x36) (s.memWrite s.hl n)

/-- LD A,(HL-) (R75). -/
def execLdAAtHlDec (s : State) : Host.Outcome State Fault Refusal := finish (.primary 0x3A) (loadAThenHl (s.hl - 1) s)

/-- LD A,d8 (R68). -/
def execLdAD8 (n : Byte) (s : State) : Host.Outcome State Fault Refusal := finish (.primary 0x3E) (s.setReg .a n)

/-- LD B,B (R67). -/
def execLdBB (s : State) : Host.Outcome State Fault Refusal := finish (.primary 0x40) (ldReg .b .b s)

/-- LD B,C (R67). -/
def execLdBC (s : State) : Host.Outcome State Fault Refusal := finish (.primary 0x41) (ldReg .b .c s)

/-- LD B,D (R67). -/
def execLdBD (s : State) : Host.Outcome State Fault Refusal := finish (.primary 0x42) (ldReg .b .d s)

/-- LD B,E (R67). -/
def execLdBE (s : State) : Host.Outcome State Fault Refusal := finish (.primary 0x43) (ldReg .b .e s)

/-- LD B,H (R67). -/
def execLdBH (s : State) : Host.Outcome State Fault Refusal := finish (.primary 0x44) (ldReg .b .h s)

/-- LD B,L (R67). -/
def execLdBL (s : State) : Host.Outcome State Fault Refusal := finish (.primary 0x45) (ldReg .b .l s)

/-- LD B,(HL) (R69). -/
def execLdBAtHl (s : State) : Host.Outcome State Fault Refusal := finish (.primary 0x46) (ldRegFrom .b s.hl s)

/-- LD B,A (R67). -/
def execLdBA (s : State) : Host.Outcome State Fault Refusal := finish (.primary 0x47) (ldReg .b .a s)

/-- LD C,B (R67). -/
def execLdCB (s : State) : Host.Outcome State Fault Refusal := finish (.primary 0x48) (ldReg .c .b s)

/-- LD C,C (R67). -/
def execLdCC (s : State) : Host.Outcome State Fault Refusal := finish (.primary 0x49) (ldReg .c .c s)

/-- LD C,D (R67). -/
def execLdCD (s : State) : Host.Outcome State Fault Refusal := finish (.primary 0x4A) (ldReg .c .d s)

/-- LD C,E (R67). -/
def execLdCE (s : State) : Host.Outcome State Fault Refusal := finish (.primary 0x4B) (ldReg .c .e s)

/-- LD C,H (R67). -/
def execLdCH (s : State) : Host.Outcome State Fault Refusal := finish (.primary 0x4C) (ldReg .c .h s)

/-- LD C,L (R67). -/
def execLdCL (s : State) : Host.Outcome State Fault Refusal := finish (.primary 0x4D) (ldReg .c .l s)

/-- LD C,(HL) (R69). -/
def execLdCAtHl (s : State) : Host.Outcome State Fault Refusal := finish (.primary 0x4E) (ldRegFrom .c s.hl s)

/-- LD C,A (R67). -/
def execLdCA (s : State) : Host.Outcome State Fault Refusal := finish (.primary 0x4F) (ldReg .c .a s)

/-- LD D,B (R67). -/
def execLdDB (s : State) : Host.Outcome State Fault Refusal := finish (.primary 0x50) (ldReg .d .b s)

/-- LD D,C (R67). -/
def execLdDC (s : State) : Host.Outcome State Fault Refusal := finish (.primary 0x51) (ldReg .d .c s)

/-- LD D,D (R67). -/
def execLdDD (s : State) : Host.Outcome State Fault Refusal := finish (.primary 0x52) (ldReg .d .d s)

/-- LD D,E (R67). -/
def execLdDE (s : State) : Host.Outcome State Fault Refusal := finish (.primary 0x53) (ldReg .d .e s)

/-- LD D,H (R67). -/
def execLdDH (s : State) : Host.Outcome State Fault Refusal := finish (.primary 0x54) (ldReg .d .h s)

/-- LD D,L (R67). -/
def execLdDL (s : State) : Host.Outcome State Fault Refusal := finish (.primary 0x55) (ldReg .d .l s)

/-- LD D,(HL) (R69). -/
def execLdDAtHl (s : State) : Host.Outcome State Fault Refusal := finish (.primary 0x56) (ldRegFrom .d s.hl s)

/-- LD D,A (R67). -/
def execLdDA (s : State) : Host.Outcome State Fault Refusal := finish (.primary 0x57) (ldReg .d .a s)

/-- LD E,B (R67). -/
def execLdEB (s : State) : Host.Outcome State Fault Refusal := finish (.primary 0x58) (ldReg .e .b s)

/-- LD E,C (R67). -/
def execLdEC (s : State) : Host.Outcome State Fault Refusal := finish (.primary 0x59) (ldReg .e .c s)

/-- LD E,D (R67). -/
def execLdED (s : State) : Host.Outcome State Fault Refusal := finish (.primary 0x5A) (ldReg .e .d s)

/-- LD E,E (R67). -/
def execLdEE (s : State) : Host.Outcome State Fault Refusal := finish (.primary 0x5B) (ldReg .e .e s)

/-- LD E,H (R67). -/
def execLdEH (s : State) : Host.Outcome State Fault Refusal := finish (.primary 0x5C) (ldReg .e .h s)

/-- LD E,L (R67). -/
def execLdEL (s : State) : Host.Outcome State Fault Refusal := finish (.primary 0x5D) (ldReg .e .l s)

/-- LD E,(HL) (R69). -/
def execLdEAtHl (s : State) : Host.Outcome State Fault Refusal := finish (.primary 0x5E) (ldRegFrom .e s.hl s)

/-- LD E,A (R67). -/
def execLdEA (s : State) : Host.Outcome State Fault Refusal := finish (.primary 0x5F) (ldReg .e .a s)

/-- LD H,B (R67). -/
def execLdHB (s : State) : Host.Outcome State Fault Refusal := finish (.primary 0x60) (ldReg .h .b s)

/-- LD H,C (R67). -/
def execLdHC (s : State) : Host.Outcome State Fault Refusal := finish (.primary 0x61) (ldReg .h .c s)

/-- LD H,D (R67). -/
def execLdHD (s : State) : Host.Outcome State Fault Refusal := finish (.primary 0x62) (ldReg .h .d s)

/-- LD H,E (R67). -/
def execLdHE (s : State) : Host.Outcome State Fault Refusal := finish (.primary 0x63) (ldReg .h .e s)

/-- LD H,H (R67). -/
def execLdHH (s : State) : Host.Outcome State Fault Refusal := finish (.primary 0x64) (ldReg .h .h s)

/-- LD H,L (R67). -/
def execLdHL (s : State) : Host.Outcome State Fault Refusal := finish (.primary 0x65) (ldReg .h .l s)

/-- LD H,(HL) (R69). -/
def execLdHAtHl (s : State) : Host.Outcome State Fault Refusal := finish (.primary 0x66) (ldRegFrom .h s.hl s)

/-- LD H,A (R67). -/
def execLdHA (s : State) : Host.Outcome State Fault Refusal := finish (.primary 0x67) (ldReg .h .a s)

/-- LD L,B (R67). -/
def execLdLB (s : State) : Host.Outcome State Fault Refusal := finish (.primary 0x68) (ldReg .l .b s)

/-- LD L,C (R67). -/
def execLdLC (s : State) : Host.Outcome State Fault Refusal := finish (.primary 0x69) (ldReg .l .c s)

/-- LD L,D (R67). -/
def execLdLD (s : State) : Host.Outcome State Fault Refusal := finish (.primary 0x6A) (ldReg .l .d s)

/-- LD L,E (R67). -/
def execLdLE (s : State) : Host.Outcome State Fault Refusal := finish (.primary 0x6B) (ldReg .l .e s)

/-- LD L,H (R67). -/
def execLdLH (s : State) : Host.Outcome State Fault Refusal := finish (.primary 0x6C) (ldReg .l .h s)

/-- LD L,L (R67). -/
def execLdLL (s : State) : Host.Outcome State Fault Refusal := finish (.primary 0x6D) (ldReg .l .l s)

/-- LD L,(HL) (R69). -/
def execLdLAtHl (s : State) : Host.Outcome State Fault Refusal := finish (.primary 0x6E) (ldRegFrom .l s.hl s)

/-- LD L,A (R67). -/
def execLdLA (s : State) : Host.Outcome State Fault Refusal := finish (.primary 0x6F) (ldReg .l .a s)

/-- LD (HL),B (R70). -/
def execLdAtHlB (s : State) : Host.Outcome State Fault Refusal := finish (.primary 0x70) (s.memWrite s.hl s.b)

/-- LD (HL),C (R70). -/
def execLdAtHlC (s : State) : Host.Outcome State Fault Refusal := finish (.primary 0x71) (s.memWrite s.hl s.c)

/-- LD (HL),D (R70). -/
def execLdAtHlD (s : State) : Host.Outcome State Fault Refusal := finish (.primary 0x72) (s.memWrite s.hl s.d)

/-- LD (HL),E (R70). -/
def execLdAtHlE (s : State) : Host.Outcome State Fault Refusal := finish (.primary 0x73) (s.memWrite s.hl s.e)

/-- LD (HL),H (R70). -/
def execLdAtHlH (s : State) : Host.Outcome State Fault Refusal := finish (.primary 0x74) (s.memWrite s.hl s.h)

/-- LD (HL),L (R70). -/
def execLdAtHlL (s : State) : Host.Outcome State Fault Refusal := finish (.primary 0x75) (s.memWrite s.hl s.l)

/-- LD (HL),A (R70). -/
def execLdAtHlA (s : State) : Host.Outcome State Fault Refusal := finish (.primary 0x77) (s.memWrite s.hl s.a)

/-- LD A,B (R67). -/
def execLdAB (s : State) : Host.Outcome State Fault Refusal := finish (.primary 0x78) (ldReg .a .b s)

/-- LD A,C (R67). -/
def execLdAC (s : State) : Host.Outcome State Fault Refusal := finish (.primary 0x79) (ldReg .a .c s)

/-- LD A,D (R67). -/
def execLdAD (s : State) : Host.Outcome State Fault Refusal := finish (.primary 0x7A) (ldReg .a .d s)

/-- LD A,E (R67). -/
def execLdAE (s : State) : Host.Outcome State Fault Refusal := finish (.primary 0x7B) (ldReg .a .e s)

/-- LD A,H (R67). -/
def execLdAH (s : State) : Host.Outcome State Fault Refusal := finish (.primary 0x7C) (ldReg .a .h s)

/-- LD A,L (R67). -/
def execLdAL (s : State) : Host.Outcome State Fault Refusal := finish (.primary 0x7D) (ldReg .a .l s)

/-- LD A,(HL) (R69). -/
def execLdAAtHl (s : State) : Host.Outcome State Fault Refusal := finish (.primary 0x7E) (ldRegFrom .a s.hl s)

/-- LD A,A (R67). -/
def execLdAA (s : State) : Host.Outcome State Fault Refusal := finish (.primary 0x7F) (ldReg .a .a s)

/-- LDH (a8),A (R83). -/
def execLdhAtA8A (n : Byte) (s : State) : Host.Outcome State Fault Refusal :=
  finish (.primary 0xE0) (s.memWrite (highPage n) s.a)

/-- LD (C),A (R85). -/
def execLdAtCA (s : State) : Host.Outcome State Fault Refusal := finish (.primary 0xE2) (s.memWrite (highPage s.c) s.a)

/-- LD (a16),A (R81). -/
def execLdAtA16A (n : Word) (s : State) : Host.Outcome State Fault Refusal := finish (.primary 0xEA) (s.memWrite n s.a)

/-- LDH A,(a8) (R82). -/
def execLdhAAtA8 (n : Byte) (s : State) : Host.Outcome State Fault Refusal :=
  finish (.primary 0xF0) (ldRegFrom .a (highPage n) s)

/-- LD A,(C) (R84). -/
def execLdAAtC (s : State) : Host.Outcome State Fault Refusal := finish (.primary 0xF2) (ldRegFrom .a (highPage s.c) s)

/-- LD A,(a16) (R80). -/
def execLdAAtA16 (n : Word) (s : State) : Host.Outcome State Fault Refusal := finish (.primary 0xFA) (ldRegFrom .a n s)

end Sys2Proof.Machine
end

