-- ==== Sys2Proof/Machine/Rotate.lean ====
section
/-! DEFINITION. Sys2Proof/Machine/Rotate.lean: rotates and shifts (spec/44_rotate_bit.md R140 to R168). -/

namespace Sys2Proof.Machine

/-- An accumulator rotate, Z cleared (R140 to R143). -/
def rotAccStep (op : RotOp) (s : State) : State :=
  let r := rotAccResult op s.a s.flagC
  setResultFlags r { s with a := r.res }

/-- A CB rotate or shift on an r8 operand (R144 to R168). -/
def rotStep (op : RotOp) (o : Operand8) (s : State) : State :=
  let r := rotResult op (s.operand o) s.flagC
  setResultFlags r ((s.afterOperand o).setOperand o r.res)

/-- RLCA (R140). -/
def execRlca (s : State) : Host.Outcome State Fault Refusal := finish (.primary 0x07) (rotAccStep .rlc s)

/-- RRCA (R141). -/
def execRrca (s : State) : Host.Outcome State Fault Refusal := finish (.primary 0x0F) (rotAccStep .rrc s)

/-- RLA (R142). -/
def execRla (s : State) : Host.Outcome State Fault Refusal := finish (.primary 0x17) (rotAccStep .rl s)

/-- RRA (R143). -/
def execRra (s : State) : Host.Outcome State Fault Refusal := finish (.primary 0x1F) (rotAccStep .rr s)

/-- RLC B (R146). -/
def execRlcB (s : State) : Host.Outcome State Fault Refusal := finish (.secondary 0x00) (rotStep .rlc (.reg .b) s)

/-- RLC C (R146). -/
def execRlcC (s : State) : Host.Outcome State Fault Refusal := finish (.secondary 0x01) (rotStep .rlc (.reg .c) s)

/-- RLC D (R146). -/
def execRlcD (s : State) : Host.Outcome State Fault Refusal := finish (.secondary 0x02) (rotStep .rlc (.reg .d) s)

/-- RLC E (R146). -/
def execRlcE (s : State) : Host.Outcome State Fault Refusal := finish (.secondary 0x03) (rotStep .rlc (.reg .e) s)

/-- RLC H (R146). -/
def execRlcH (s : State) : Host.Outcome State Fault Refusal := finish (.secondary 0x04) (rotStep .rlc (.reg .h) s)

/-- RLC L (R146). -/
def execRlcL (s : State) : Host.Outcome State Fault Refusal := finish (.secondary 0x05) (rotStep .rlc (.reg .l) s)

/-- RLC (HL) (R147). -/
def execRlcAtHl (s : State) : Host.Outcome State Fault Refusal := finish (.secondary 0x06) (rotStep .rlc .atHl s)

/-- RLC A (R146). -/
def execRlcA (s : State) : Host.Outcome State Fault Refusal := finish (.secondary 0x07) (rotStep .rlc (.reg .a) s)

/-- RRC B (R149). -/
def execRrcB (s : State) : Host.Outcome State Fault Refusal := finish (.secondary 0x08) (rotStep .rrc (.reg .b) s)

/-- RRC C (R149). -/
def execRrcC (s : State) : Host.Outcome State Fault Refusal := finish (.secondary 0x09) (rotStep .rrc (.reg .c) s)

/-- RRC D (R149). -/
def execRrcD (s : State) : Host.Outcome State Fault Refusal := finish (.secondary 0x0A) (rotStep .rrc (.reg .d) s)

/-- RRC E (R149). -/
def execRrcE (s : State) : Host.Outcome State Fault Refusal := finish (.secondary 0x0B) (rotStep .rrc (.reg .e) s)

/-- RRC H (R149). -/
def execRrcH (s : State) : Host.Outcome State Fault Refusal := finish (.secondary 0x0C) (rotStep .rrc (.reg .h) s)

/-- RRC L (R149). -/
def execRrcL (s : State) : Host.Outcome State Fault Refusal := finish (.secondary 0x0D) (rotStep .rrc (.reg .l) s)

/-- RRC (HL) (R150). -/
def execRrcAtHl (s : State) : Host.Outcome State Fault Refusal := finish (.secondary 0x0E) (rotStep .rrc .atHl s)

/-- RRC A (R149). -/
def execRrcA (s : State) : Host.Outcome State Fault Refusal := finish (.secondary 0x0F) (rotStep .rrc (.reg .a) s)

/-- RL B (R152). -/
def execRlB (s : State) : Host.Outcome State Fault Refusal := finish (.secondary 0x10) (rotStep .rl (.reg .b) s)

/-- RL C (R152). -/
def execRlC (s : State) : Host.Outcome State Fault Refusal := finish (.secondary 0x11) (rotStep .rl (.reg .c) s)

/-- RL D (R152). -/
def execRlD (s : State) : Host.Outcome State Fault Refusal := finish (.secondary 0x12) (rotStep .rl (.reg .d) s)

/-- RL E (R152). -/
def execRlE (s : State) : Host.Outcome State Fault Refusal := finish (.secondary 0x13) (rotStep .rl (.reg .e) s)

/-- RL H (R152). -/
def execRlH (s : State) : Host.Outcome State Fault Refusal := finish (.secondary 0x14) (rotStep .rl (.reg .h) s)

/-- RL L (R152). -/
def execRlL (s : State) : Host.Outcome State Fault Refusal := finish (.secondary 0x15) (rotStep .rl (.reg .l) s)

/-- RL (HL) (R153). -/
def execRlAtHl (s : State) : Host.Outcome State Fault Refusal := finish (.secondary 0x16) (rotStep .rl .atHl s)

/-- RL A (R152). -/
def execRlA (s : State) : Host.Outcome State Fault Refusal := finish (.secondary 0x17) (rotStep .rl (.reg .a) s)

/-- RR B (R155). -/
def execRrB (s : State) : Host.Outcome State Fault Refusal := finish (.secondary 0x18) (rotStep .rr (.reg .b) s)

/-- RR C (R155). -/
def execRrC (s : State) : Host.Outcome State Fault Refusal := finish (.secondary 0x19) (rotStep .rr (.reg .c) s)

/-- RR D (R155). -/
def execRrD (s : State) : Host.Outcome State Fault Refusal := finish (.secondary 0x1A) (rotStep .rr (.reg .d) s)

/-- RR E (R155). -/
def execRrE (s : State) : Host.Outcome State Fault Refusal := finish (.secondary 0x1B) (rotStep .rr (.reg .e) s)

/-- RR H (R155). -/
def execRrH (s : State) : Host.Outcome State Fault Refusal := finish (.secondary 0x1C) (rotStep .rr (.reg .h) s)

/-- RR L (R155). -/
def execRrL (s : State) : Host.Outcome State Fault Refusal := finish (.secondary 0x1D) (rotStep .rr (.reg .l) s)

/-- RR (HL) (R156). -/
def execRrAtHl (s : State) : Host.Outcome State Fault Refusal := finish (.secondary 0x1E) (rotStep .rr .atHl s)

/-- RR A (R155). -/
def execRrA (s : State) : Host.Outcome State Fault Refusal := finish (.secondary 0x1F) (rotStep .rr (.reg .a) s)

/-- SLA B (R158). -/
def execSlaB (s : State) : Host.Outcome State Fault Refusal := finish (.secondary 0x20) (rotStep .sla (.reg .b) s)

/-- SLA C (R158). -/
def execSlaC (s : State) : Host.Outcome State Fault Refusal := finish (.secondary 0x21) (rotStep .sla (.reg .c) s)

/-- SLA D (R158). -/
def execSlaD (s : State) : Host.Outcome State Fault Refusal := finish (.secondary 0x22) (rotStep .sla (.reg .d) s)

/-- SLA E (R158). -/
def execSlaE (s : State) : Host.Outcome State Fault Refusal := finish (.secondary 0x23) (rotStep .sla (.reg .e) s)

/-- SLA H (R158). -/
def execSlaH (s : State) : Host.Outcome State Fault Refusal := finish (.secondary 0x24) (rotStep .sla (.reg .h) s)

/-- SLA L (R158). -/
def execSlaL (s : State) : Host.Outcome State Fault Refusal := finish (.secondary 0x25) (rotStep .sla (.reg .l) s)

/-- SLA (HL) (R159). -/
def execSlaAtHl (s : State) : Host.Outcome State Fault Refusal := finish (.secondary 0x26) (rotStep .sla .atHl s)

/-- SLA A (R158). -/
def execSlaA (s : State) : Host.Outcome State Fault Refusal := finish (.secondary 0x27) (rotStep .sla (.reg .a) s)

/-- SRA B (R161). -/
def execSraB (s : State) : Host.Outcome State Fault Refusal := finish (.secondary 0x28) (rotStep .sra (.reg .b) s)

/-- SRA C (R161). -/
def execSraC (s : State) : Host.Outcome State Fault Refusal := finish (.secondary 0x29) (rotStep .sra (.reg .c) s)

/-- SRA D (R161). -/
def execSraD (s : State) : Host.Outcome State Fault Refusal := finish (.secondary 0x2A) (rotStep .sra (.reg .d) s)

/-- SRA E (R161). -/
def execSraE (s : State) : Host.Outcome State Fault Refusal := finish (.secondary 0x2B) (rotStep .sra (.reg .e) s)

/-- SRA H (R161). -/
def execSraH (s : State) : Host.Outcome State Fault Refusal := finish (.secondary 0x2C) (rotStep .sra (.reg .h) s)

/-- SRA L (R161). -/
def execSraL (s : State) : Host.Outcome State Fault Refusal := finish (.secondary 0x2D) (rotStep .sra (.reg .l) s)

/-- SRA (HL) (R162). -/
def execSraAtHl (s : State) : Host.Outcome State Fault Refusal := finish (.secondary 0x2E) (rotStep .sra .atHl s)

/-- SRA A (R161). -/
def execSraA (s : State) : Host.Outcome State Fault Refusal := finish (.secondary 0x2F) (rotStep .sra (.reg .a) s)

/-- SWAP B (R164). -/
def execSwapB (s : State) : Host.Outcome State Fault Refusal := finish (.secondary 0x30) (rotStep .swap (.reg .b) s)

/-- SWAP C (R164). -/
def execSwapC (s : State) : Host.Outcome State Fault Refusal := finish (.secondary 0x31) (rotStep .swap (.reg .c) s)

/-- SWAP D (R164). -/
def execSwapD (s : State) : Host.Outcome State Fault Refusal := finish (.secondary 0x32) (rotStep .swap (.reg .d) s)

/-- SWAP E (R164). -/
def execSwapE (s : State) : Host.Outcome State Fault Refusal := finish (.secondary 0x33) (rotStep .swap (.reg .e) s)

/-- SWAP H (R164). -/
def execSwapH (s : State) : Host.Outcome State Fault Refusal := finish (.secondary 0x34) (rotStep .swap (.reg .h) s)

/-- SWAP L (R164). -/
def execSwapL (s : State) : Host.Outcome State Fault Refusal := finish (.secondary 0x35) (rotStep .swap (.reg .l) s)

/-- SWAP (HL) (R165). -/
def execSwapAtHl (s : State) : Host.Outcome State Fault Refusal := finish (.secondary 0x36) (rotStep .swap .atHl s)

/-- SWAP A (R164). -/
def execSwapA (s : State) : Host.Outcome State Fault Refusal := finish (.secondary 0x37) (rotStep .swap (.reg .a) s)

/-- SRL B (R167). -/
def execSrlB (s : State) : Host.Outcome State Fault Refusal := finish (.secondary 0x38) (rotStep .srl (.reg .b) s)

/-- SRL C (R167). -/
def execSrlC (s : State) : Host.Outcome State Fault Refusal := finish (.secondary 0x39) (rotStep .srl (.reg .c) s)

/-- SRL D (R167). -/
def execSrlD (s : State) : Host.Outcome State Fault Refusal := finish (.secondary 0x3A) (rotStep .srl (.reg .d) s)

/-- SRL E (R167). -/
def execSrlE (s : State) : Host.Outcome State Fault Refusal := finish (.secondary 0x3B) (rotStep .srl (.reg .e) s)

/-- SRL H (R167). -/
def execSrlH (s : State) : Host.Outcome State Fault Refusal := finish (.secondary 0x3C) (rotStep .srl (.reg .h) s)

/-- SRL L (R167). -/
def execSrlL (s : State) : Host.Outcome State Fault Refusal := finish (.secondary 0x3D) (rotStep .srl (.reg .l) s)

/-- SRL (HL) (R168). -/
def execSrlAtHl (s : State) : Host.Outcome State Fault Refusal := finish (.secondary 0x3E) (rotStep .srl .atHl s)

/-- SRL A (R167). -/
def execSrlA (s : State) : Host.Outcome State Fault Refusal := finish (.secondary 0x3F) (rotStep .srl (.reg .a) s)

end Sys2Proof.Machine
end

