-- ==== Sys2Proof/Machine/System.lean ====
section
/-! DEFINITION. Sys2Proof/Machine/System.lean: system and control instructions (spec/46_system.md R187 to R194). PC is PC after. -/

namespace Sys2Proof.Machine

/-- The CB rule of a secondary opcode (R61, R193), from its fields x, y, z; its cycles are its own entry's (R193). -/
def runSecondary (op2 : Byte) (s : State) : Host.Outcome State Fault Refusal :=
  let o := operandOfCode (op2.extractLsb' 0 3)
  let y := op2.extractLsb' 3 3
  match (op2.extractLsb' 6 2).toNat with
  | 0 => finish (.secondary op2) (rotStep (rotOfCode y) o s)
  | 1 => finish (.secondary op2) (bitTestStep y.toFin o s)
  | 2 => finish (.secondary op2) (bitResStep y.toFin o s)
  | _ => finish (.secondary op2) (bitSetStep y.toFin o s)

/-- NOP (R187). -/
def execNop (s : State) : Host.Outcome State Fault Refusal := finish (.primary 0x00) s

/-- STOP (R189). -/
def execStop (_pad : Byte) (s : State) : Host.Outcome State Fault Refusal :=
  finish (.primary 0x10) { s with power := .stopped }

/-- HALT (R188). -/
def execHalt (s : State) : Host.Outcome State Fault Refusal := finish (.primary 0x76) { s with power := .halted }

/-- PREFIX CB (R193). -/
def execPrefixCb (op2 : Byte) (s : State) : Host.Outcome State Fault Refusal := runSecondary op2 s

/-- ILLEGAL D3 (R194). -/
def execIllegalD3 (s : State) : Host.Outcome State Fault Refusal := raiseUnknownOpcode 0xD3 s

/-- ILLEGAL DB (R194). -/
def execIllegalDB (s : State) : Host.Outcome State Fault Refusal := raiseUnknownOpcode 0xDB s

/-- ILLEGAL DD (R194). -/
def execIllegalDD (s : State) : Host.Outcome State Fault Refusal := raiseUnknownOpcode 0xDD s

/-- ILLEGAL E3 (R194). -/
def execIllegalE3 (s : State) : Host.Outcome State Fault Refusal := raiseUnknownOpcode 0xE3 s

/-- ILLEGAL E4 (R194). -/
def execIllegalE4 (s : State) : Host.Outcome State Fault Refusal := raiseUnknownOpcode 0xE4 s

/-- ILLEGAL EB (R194). -/
def execIllegalEB (s : State) : Host.Outcome State Fault Refusal := raiseUnknownOpcode 0xEB s

/-- ILLEGAL EC (R194). -/
def execIllegalEC (s : State) : Host.Outcome State Fault Refusal := raiseUnknownOpcode 0xEC s

/-- ILLEGAL ED (R194). -/
def execIllegalED (s : State) : Host.Outcome State Fault Refusal := raiseUnknownOpcode 0xED s

/-- DI (R190). -/
def execDi (s : State) : Host.Outcome State Fault Refusal :=
  finish (.primary 0xF3) { s with ime := false, eiDelay := 0 }

/-- ILLEGAL F4 (R194). -/
def execIllegalF4 (s : State) : Host.Outcome State Fault Refusal := raiseUnknownOpcode 0xF4 s

/-- EI (R191). -/
def execEi (s : State) : Host.Outcome State Fault Refusal :=
  finish (.primary 0xFB) { s with eiDelay := if s.eiDelay = 0 then 2 else s.eiDelay }

/-- ILLEGAL FC (R194). -/
def execIllegalFC (s : State) : Host.Outcome State Fault Refusal := raiseUnknownOpcode 0xFC s

/-- ILLEGAL FD (R194). -/
def execIllegalFD (s : State) : Host.Outcome State Fault Refusal := raiseUnknownOpcode 0xFD s

end Sys2Proof.Machine
end

