-- ==== Sys2Proof/Machine/Ppu.lean ====
section
/-! DEFINITION. Sys2Proof/Machine/Ppu.lean: the PPU timing state machine and the background renderer
(spec/60_exceptions.md R212 to R219). The PPU reads the backing array directly (R36, R216). -/

namespace Sys2Proof.Machine

/-- The cycle budget of a mode (R212). -/
def Mode.budget : Mode → Nat
  | .oam => 80
  | .xfer => 172
  | .hblank => 204
  | .vblank => 456

/-- The LCDC byte (R28). -/
def State.lcdc (s : State) : Byte := s.mem.get 0xFF40

/-- The address of the first byte of a tile (R216): unsigned index from 0x8000, or signed index from 0x9000. -/
def tileAddress (unsignedData : Bool) (idx : Byte) : Nat :=
  if unsignedData then 0x8000 + idx.toNat * 16
  else if idx.toNat < 128 then 0x9000 + idx.toNat * 16
  else 0x9000 - (256 - idx.toNat) * 16

/-- The shade of colour number `colour` under the palette `bgp` (R31). -/
def paletteShade (bgp : Byte) (colour : Nat) : Shade := bgp.extractLsb' (2 * colour) 2

/-- The shade `RenderLine(ly)` writes at column `x` (R216). -/
def State.pixel (s : State) (ly x : Nat) : Shade :=
  let y := (ly + (s.mem.get 0xFF42).toNat) % 256
  let xx := (x + (s.mem.get 0xFF43).toNat) % 256
  let map := if s.lcdc.getLsbD 3 then 0x9C00 else 0x9800
  let idx := s.mem.get (map + (y / 8) * 32 + xx / 8)
  let row := tileAddress (s.lcdc.getLsbD 4) idx + (y % 8) * 2
  let bit := 7 - xx % 8
  let colour := ((s.mem.get (row + 1)).getLsbD bit).toNat * 2 + ((s.mem.get row).getLsbD bit).toNat
  paletteShade (s.mem.get 0xFF47) colour

/-- The row `RenderLine(ly)` writes (R216). -/
def State.scanline (s : State) (ly : Nat) : Scanline :=
  Vector.mk ((List.range Config.screenColumns).map (s.pixel ly)).toArray (by simp)

/-- `RenderLine(ly)` (R216). A row number past the framebuffer, which no reachable state gives, writes nothing
(log entry 10). -/
def State.renderLine (ly : Nat) (s : State) : State := { s with fb := s.fb.setIfInBounds ly (s.scanline ly) }

/-- One transition of the PPU, its mode's budget used up (R212, R213, R215). -/
def State.ppuAdvance (s : State) : State :=
  match s.mode with
  | .oam => { s with counter := s.counter - 80, mode := .xfer }
  | .xfer =>
    let s1 := if s.lcdc.getLsbD 7 then s.renderLine s.line else s
    { s1 with counter := s.counter - 172, mode := .hblank }
  | .hblank =>
    if s.line + 1 = 144 then
      { s with counter := s.counter - 204, line := 144, mode := .vblank, ifReg := s.ifReg ||| 0x01 }
    else { s with counter := s.counter - 204, line := s.line + 1, mode := .oam }
  | .vblank =>
    if s.line + 1 = 154 then { s with counter := s.counter - 456, line := 0, mode := .oam }
    else { s with counter := s.counter - 456, line := s.line + 1 }

/-- Transitions, at most `fuel` of them, until the counter is below the mode's budget. -/
def ppuRun : Nat → State → State
  | 0, s => s
  | fuel + 1, s => if s.counter < s.mode.budget then s else ppuRun fuel s.ppuAdvance

/-- `PpuStep(n)` (R213). Each transition takes at least one cycle off the counter, so the counter bounds their number
(log entry 12). -/
def State.ppuStep (n : Nat) (s : State) : State := ppuRun (s.counter + n) { s with counter := s.counter + n }

end Sys2Proof.Machine
end

