-- ==== Sys2Proof/Machine/Cpu.lean ====
section
/-! DEFINITION. Sys2Proof/Machine/Cpu.lean: fetching, the CPU step and the system step (spec/60_exceptions.md R195, R196,
R203; spec/46_system.md R192). -/

namespace Sys2Proof.Machine

/-! ## Fetch -/

/-- The `k`-th byte of the instruction at PC: the `k`-th bus read of the step (R10, R19, R51). -/
def State.fetchByte (s : State) (k : Nat) : Byte :=
  { s with reads := s.reads + k }.busRead (s.pc + BitVec.ofNat 16 k)

/-- The length of the instruction at PC (R54). -/
def State.fetchLength (s : State) : Nat := instrLength (s.fetchByte 0)

/-- The opcode byte or bytes of the instruction at PC, which the observation hook receives (R208). -/
def State.fetchOpcode (s : State) : List Byte := (opSlot (s.fetchByte 0) (s.fetchByte 1)).bytes

/-- The instruction at PC. -/
def State.instrAt (s : State) : Instr := decodeBytes (s.fetchByte 0) (s.fetchByte 1) (s.fetchByte 2)

/-- The state after fetching the instruction at PC: PC has passed its bytes (R19). -/
def State.afterFetch (s : State) : State :=
  { s with
    pc := s.pc + BitVec.ofNat 16 s.fetchLength
    reads := s.reads + s.fetchLength
    opcode := s.fetchOpcode }

/-! ## The CPU step -/

/-- The core stays halted or stopped in this step (R196, R210). -/
def State.staysIdle (stopWake : Bool) (s : State) : Bool :=
  match s.power with
  | .run => false
  | .halted => s.pending == 0
  | .stopped => s.pending == 0 && !stopWake

/-- The state after an idle step: nothing fetched, nothing changed, `HaltIdleCycles` returned (R8, R196). -/
def State.idle (s : State) : State := { s with cycles := s.timing.haltIdle, opcode := [] }

/-- The core runs (R196). -/
def State.wake (s : State) : State := { s with power := .run }

/-- The state after a dispatch step, which returns `IntDispatchCycles` (R8, R196, R200). -/
def State.dispatchStep (i : IntSource) (s : State) : State :=
  { s.takeInterrupt i with cycles := s.timing.intDispatch, opcode := [] }

/-- `EiTick()` (R192). -/
def State.eiTick (s : State) : State :=
  if s.eiDelay = 2 then { s with eiDelay := 1 }
  else if s.eiDelay = 1 then { s with eiDelay := 0, ime := true }
  else s

/-- The end of a step that executed an instruction: `EiTick()`, unless the instruction raised the fault (R192). -/
def State.endInstruction (s : State) : State :=
  match s.faultRec with
  | some _ => s
  | none => s.eiTick

/-- An outcome with its next state carried on. -/
def mapNext (g : State → State) : Host.Outcome State Fault Refusal → Host.Outcome State Fault Refusal
  | .next s => .next (g s)
  | .fault r => .fault r
  | .refused r => .refused r

/-- Fetches and executes one instruction (R196). -/
def runInstruction (s : State) : Host.Outcome State Fault Refusal :=
  mapNext State.endInstruction (exec s.instrAt s.afterFetch)

/-- `CpuStep(stop_wake)` (R196): a faulted core returns its fault; a halted or stopped core idles or wakes; an enabled,
pending interrupt is dispatched; otherwise one instruction runs. -/
def cpuStep (stopWake : Bool) (s : State) : Host.Outcome State Fault Refusal :=
  match s.faultRec with
  | some r => .fault (.faulted r)
  | none =>
    if s.staysIdle stopWake then .next s.idle
    else
      match s.wake.interruptTaken with
      | some i => .next (s.wake.dispatchStep i)
      | none => runInstruction s.wake

/-! ## The system step -/

/-- The inputs of the next system step (R203); when none are listed, no request and no wake (log entry 3). -/
def State.nextInput (s : State) : StepInput := s.inputs.headD { irq := 0, stopWake := false }

/-- `IF <- IF | (irq_in & 0x1C)`, with the inputs of this step consumed (R203). -/
def State.latchInput (s : State) : State :=
  { s with ifReg := s.ifReg ||| (s.nextInput.irq &&& 0x1C), inputs := s.inputs.tail }

/-- The PPU's part of the system step: the cycles the CPU step returned, and nothing after a fault (R203). -/
def State.ppuPart (s : State) : State :=
  match s.faultRec with
  | some _ => s
  | none => s.ppuStep s.cycles

/-- `SystemStep(irq_in, stop_wake)` (R203), its inputs the head of `inputs`: the latch, the CPU step, the PPU's part. On a
faulted core the CPU step changes nothing and the PPU is not stepped, so the state after it is the latched one, and what
the step returns is the recorded fault, `State.result` (R197, log entry 4). -/
def systemStep (s : State) : Host.Outcome State Fault Refusal :=
  match cpuStep s.nextInput.stopWake s.latchInput with
  | .next t => .next t.ppuPart
  | .fault _ => .next s.latchInput
  | .refused r => .refused r

/-! ## Placing an instruction where the next step fetches -/

/-- A fetch at the address reads the backing array (R37). -/
def isArrayByte (addr : Word) : Bool := busTarget addr == .rom || busTarget addr == .plain

/-- Nothing keeps the next step from fetching: no recorded fault, the core running, no interrupt dispatched. Only what
stands in the way is changed. -/
def State.readyToFetch (s : State) : State :=
  { s with
    faultRec := none
    power := .run
    ime := s.ime && (highestPriority s.latchInput.pending).isNone }

/-- PC where three bytes can be fetched from the backing array: where it is, or else work RAM. -/
def State.withFetchablePc (s : State) : State :=
  if isArrayByte s.pc && isArrayByte (s.pc + 1) && isArrayByte (s.pc + 2) then s else { s with pc := 0xC000 }

/-- The 24 bits of an instruction stored at PC, directly into the backing array as `load` does (R53). -/
def State.placeAtPc (v : BitVec 24) (s : State) : State :=
  ((s.setMem s.pc (v.extractLsb' 0 8)).setMem (s.pc + 1) (v.extractLsb' 8 8)).setMem (s.pc + 2) (v.extractLsb' 16 8)

end Sys2Proof.Machine
end

