-- ==== Sys2Proof/Machine/Step.lean ====
section
/-! DEFINITION. Sys2Proof/Machine/Step.lean: one step of the machine is one system step (spec/60_exceptions.md R203). -/

namespace Sys2Proof.Machine

/-- One system step: the CPU step, then the PPU step on the cycles it returned (R203). -/
def step (s : State) : Host.Outcome State Fault Refusal := systemStep s

/-- The state with an opcode-table word stored where the next step fetches its instruction (log entry 8): the three
bytes at PC, the bits above `nbits` zero. -/
def State.withFetchWord (s : State) (nbits w : Nat) : State :=
  s.readyToFetch.withFetchablePc.placeAtPc (BitVec.ofNat 24 (w % 2 ^ nbits))

end Sys2Proof.Machine
end

