-- ==== Sys2Proof/Safety.lean ====
section
/-! DEFINITION. Sys2Proof/Safety.lean: what counts as a safe run, the invariant of the machine, and the terms in which
claims say what an instruction changes and what it leaves. -/

namespace Sys2Proof.Machine

/-! ## Safe steps and the invariant -/

/-- A safe step answers a state with no recorded fault. -/
def SafeStep (s : State) : Prop := ∃ t, step s = .next t ∧ t.faultRec = none

/-- What holds of every reachable state: memory is in canonical form, F's low nibble is zero (R15), the stored STAT byte
has no mode bits (R29), the PPU is in a legal position (R33, R212, R213), and a recorded fault is an unknown opcode at
PC of a core that was running (R194, R197). -/
structure State.Inv (s : State) : Prop where
  mem_wf : Memory.wf s.mem
  f_low : s.f &&& 0x0F = 0
  stat_low : s.mem.get 0xFF41 &&& 0x03 = 0
  line_le : s.line ≤ 153
  vblank_iff : s.mode = .vblank ↔ 144 ≤ s.line
  counter_lt : s.counter < s.mode.budget
  fault_unknown : ∀ r, s.faultRec = some r →
    r.kind = .unknownOpcode ∧ r.pc = s.pc ∧ (∃ k : IllegalSlot, r.opcode = k.opcode) ∧ s.power = .run

/-! ## Frames -/

/-- The registers A, B, C, D, E, H, L are unchanged. -/
def SameRegs (s t : State) : Prop := ∀ r, t.reg r = s.reg r

/-- Every CPU register is unchanged: the 8-bit registers, F, SP and PC. -/
structure SameCpu (s t : State) : Prop where
  regs : SameRegs s t
  f : t.f = s.f
  sp : t.sp = s.sp
  pc : t.pc = s.pc

/-- Every byte of memory outside `stored` reads as before. The peripheral-port addresses hold no byte: a read of one is
a draw (R204). -/
def SameBytesExcept (stored : Word → Prop) (s t : State) : Prop :=
  ∀ addr, ¬ stored addr → busTarget addr ≠ .periph → t.busRead addr = s.busRead addr

/-- The PPU's state is unchanged (R33). -/
structure SamePpu (s t : State) : Prop where
  mode : t.mode = s.mode
  line : t.line = s.line
  counter : t.counter = s.counter
  fb : t.fb = s.fb

/-- The control state is unchanged: IME, EiDelay, Power, FaultRec (R21 to R24). -/
structure SameControl (s t : State) : Prop where
  ime : t.ime = s.ime
  eiDelay : t.eiDelay = s.eiDelay
  power : t.power = s.power
  faultRec : t.faultRec = s.faultRec

/-- Everything outside the registers, the bus and the instruction's cycles is unchanged. -/
structure SameRest (s t : State) : Prop where
  ppu : SamePpu s t
  control : SameControl s t
  opcode : t.opcode = s.opcode
  inputs : t.inputs = s.inputs
  timing : t.timing = s.timing

/-- Everything outside the registers and the instruction's cycles is unchanged: the form stores nothing. -/
structure SameSystem (s t : State) : Prop where
  rest : SameRest s t
  mem : t.mem = s.mem
  ifReg : t.ifReg = s.ifReg
  ie : t.ie = s.ie
  events : t.events = s.events
  bytes : SameBytesExcept (fun _ => False) s t

/-- What `MemWrite(addr, v)` does from `s` to `t`, by the address map (R37 to R41, R44): every other byte reads as
before; the byte itself reads as its region says; the backing array changes in that byte only, and only where the map
stores to it; a write to a protected range or a device emits its event. -/
structure WroteByte (addr : Word) (v : Byte) (s t : State) : Prop where
  others : SameBytesExcept (fun a => a = addr) s t
  plain : busTarget addr = .plain → t.busRead addr = v
  ignored : busTarget addr = .rom ∨ busTarget addr = .unmapped ∨ busTarget addr = .prohibited ∨ busTarget addr = .ly →
    t.busRead addr = s.busRead addr
  stat : addr = 0xFF41 → t.busRead addr = (v &&& 0xFC) ||| t.mode.number
  array : ∀ a : Word, t.mem.get a.toNat =
    if a = addr ∧ busTarget addr = .plain then v
    else if a = addr ∧ addr = 0xFF41 then v &&& 0xFC
    else s.mem.get a.toNat
  ifReg : t.ifReg = if addr = 0xFF0F then v.setWidth 5 else s.ifReg
  ie : t.ie = if addr = 0xFFFF then v else s.ie
  events : t.events =
    if busTarget addr = .rom ∨ busTarget addr = .prohibited then .ignoredWrite addr v :: s.events
    else if busTarget addr = .periph then .periphWrite addr v :: s.events
    else s.events

/-- F holds exactly these flags; its low nibble is zero (R15, R17). -/
structure HasFlags (t : State) (z n h c : Bool) : Prop where
  z : t.flagZ = z
  n : t.flagN = n
  h : t.flagH = h
  c : t.flagC = c
  low : t.f &&& 0x0F = 0

/-! ## The encodings of the regular blocks -/

/-- The bytes of an ALU instruction (R94): `10yyyzzz`, or `11yyy110` and the immediate. -/
def aluBytes (op : AluOp) : AluSrc → List Byte
  | .operand o => [0b10#2 ++ op.code ++ o.code]
  | .imm n => [0b11#2 ++ op.code ++ 0b110#3, n]

/-- The default cycles of an ALU instruction (R94): 4 for a register, 8 for (HL) or an immediate. -/
def aluCycles : AluSrc → Nat
  | .operand (.reg _) => 4
  | .operand .atHl => 8
  | .imm _ => 8

/-! ## Cycles -/

/-- The default count of an instruction's slot, taken (R8, R228). -/
def defaultTaken (i : Instr) : Nat := (CycleConfig.default.entry i.slot).taken

/-- The default count of an instruction's slot, not taken (R8, R228). -/
def defaultNotTaken (i : Instr) : Nat := (CycleConfig.default.entry i.slot).notTaken

/-- From `s` to `t` the instruction `i` takes the cycles of its slot in the CycleTable the machine runs with (R8, R196);
in the default table these are `n` (R228). -/
structure Costs (i : Instr) (n : Nat) (s t : State) : Prop where
  cycles : t.cycles = (s.timing.entry i.slot).taken
  default : defaultTaken i = n

/-- As `Costs`, for a conditional instruction whose condition fails: the not-taken count of its slot (R8, R196, R228). -/
structure CostsNotTaken (i : Instr) (n : Nat) (s t : State) : Prop where
  cycles : t.cycles = (s.timing.entry i.slot).notTaken
  default : defaultNotTaken i = n

/-! ## Conditions -/

/-- `Cond(cc)` holds: Z = 0, Z = 1, C = 0, C = 1 (R58), as bits 7 and 4 of F (R17). -/
def condHolds (cc : Cond) (s : State) : Bool :=
  match cc with
  | .nz => s.f.toNat / 128 == 0
  | .z => s.f.toNat / 128 == 1
  | .nc => s.f.toNat / 16 % 2 == 0
  | .c => s.f.toNat / 16 % 2 == 1

/-! ## Rotates and shifts as arithmetic -/

/-- The result of a rotate or shift of the value `v` with the carry `c`, 0 or 1, as a number (R145 to R166). -/
def shiftValue (op : RotOp) (v c : Nat) : Nat :=
  match op with
  | .rlc => 2 * v % 256 + v / 128
  | .rrc => v / 2 + 128 * (v % 2)
  | .rl => 2 * v % 256 + c
  | .rr => v / 2 + 128 * c
  | .sla => 2 * v % 256
  | .sra => v / 2 + 128 * (v / 128)
  | .swap => 16 * (v % 16) + v / 16
  | .srl => v / 2

/-- The carry out of a rotate or shift (R145 to R166): bit 7 to the left, bit 0 to the right, 0 for SWAP. -/
def shiftCarry (op : RotOp) (v : Nat) : Bool :=
  match op with
  | .rlc | .rl | .sla => v / 128 == 1
  | .rrc | .rr | .sra | .srl => v % 2 == 1
  | .swap => false

/-! ## Running -/

/-- The next CPU step of `s` fetches an instruction: no recorded fault, the core running, and no interrupt taken. -/
def State.fetches (s : State) : Prop := s.faultRec = none ∧ s.power = .run ∧ s.interruptTaken = none

end Sys2Proof.Machine
end

