-- ==== Sys2Proof/Certificates/Slice0/Obligations.lean ====
section
/-! DEFINITION. Sys2Proof/Certificates/Slice0/Obligations.lean: the statements for the provers. A statement about an
instruction says its bytes (its encoding, R55 to R61), that `exec` answers a next state for every operand and every
state, what that state holds, and its frame. `exec` runs with PC past the instruction's bytes (R19). A `Costs` clause
says the cycles: the CycleTable's entry of the slot, whatever the table, and that entry's default (R8, R228). -/

section

open Sys2Proof Sys2Proof.Machine

/-! ## Reset and the invariant -/

/-- R221, line by line; the clause on interrupts is its closing sentence: none can be taken. Two clauses are the model's
own: a read of a peripheral address, a draw in R221, is `Config.periphRead` of the address and the read
counter (log entry 2), and the cycle parameters stand in the state, with R8's defaults at reset (log entry 1). -/
def Obligations.ResetGivesSpecifiedState : Prop :=
  let s := State.reset
  s.a = 0x01 ∧ s.f = 0xB0 ∧ HasFlags s true false true true ∧
  s.b = 0x00 ∧ s.c = 0x13 ∧ s.bc = 0x0013 ∧ s.d = 0x00 ∧ s.e = 0xD8 ∧ s.de = 0x00D8 ∧
  s.h = 0x01 ∧ s.l = 0x4D ∧ s.hl = 0x014D ∧ s.sp = 0xFFFE ∧ s.pc = 0x0100 ∧
  s.ime = false ∧ s.eiDelay = 0 ∧ s.power = .run ∧ s.faultRec = none ∧
  s.ie = 0x00 ∧ s.busRead 0xFFFF = 0x00 ∧ s.ifReg = 0x01 ∧ s.busRead 0xFF0F = 0xE1 ∧
  (∀ a : Word, a.toNat < 0xFF00 → s.mem.get a.toNat = 0x00 ∧ s.busRead a = 0x00) ∧
  (∀ a : Word, s.mem.get a.toNat = if a = 0xFF40 then 0x91 else if a = 0xFF47 then 0xFC else 0x00) ∧
  s.busRead 0xFF40 = 0x91 ∧ s.busRead 0xFF41 = 0x02 ∧ s.busRead 0xFF42 = 0x00 ∧ s.busRead 0xFF43 = 0x00 ∧
  s.busRead 0xFF44 = 0x00 ∧ s.busRead 0xFF45 = 0x00 ∧ s.busRead 0xFF46 = 0x00 ∧ s.busRead 0xFF47 = 0xFC ∧
  (∀ a : Word, busTarget a = .periph → s.busRead a = Config.periphRead a s.reads) ∧
  (∀ a : Word, 0xFF80 ≤ a.toNat → a.toNat ≤ 0xFFFE → s.busRead a = 0x00) ∧
  s.mode = .oam ∧ s.line = 0 ∧ s.counter = 0 ∧
  (∀ (y : Fin 144) (x : Fin 160), (s.fb[y])[x] = 0) ∧
  s.interruptTaken = none ∧
  s.timing = .default ∧ (∀ c : CycleConfig, State.resetWith c = { s with timing := c })

/-- The invariant of `Safety.lean` holds at reset. -/
def Obligations.ResetSatisfiesInvariant : Prop := State.reset.Inv

/-- Every step keeps the invariant: memory in canonical form, F's low nibble 0 (R15), STAT's stored mode bits 0 (R29),
the PPU in a legal position (R33, R213), and a recorded fault an unknown opcode at PC of a running core (R194). -/
def Obligations.StepKeepsInvariant : Prop :=
  ∀ s t : State, s.Inv → step s = .next t → t.Inv

/-! ## Fetch, decode and encode -/

/-- When the core fetches and the three bytes from PC on decode to the instruction `i` (its bytes and some rest), a step
is `exec i` with PC past the bytes of `i`, between the latch of the inputs and the end of the step (R10, R19, R196,
R203). -/
def Obligations.StepRunsDecodedInstruction : Prop :=
  ∀ (s : State) (i : Instr) (rest : List Byte),
    s.latchInput.fetches →
    decode [s.latchInput.fetchByte 0, s.latchInput.fetchByte 1, s.latchInput.fetchByte 2] = .ok (i, rest) →
    step s = mapNext State.ppuPart (mapNext State.endInstruction
      (exec i { s.latchInput with
        pc := s.pc + BitVec.ofNat 16 (encode i).length
        reads := s.reads + (encode i).length
        opcode := i.slot.bytes }))

/-- Decoding the bytes of a well-formed instruction gives it back, with every operand, and the bytes after it. -/
def Obligations.DecodeOfEncodeIsInstruction : Prop :=
  ∀ (i : Instr) (rest : List Byte), i.wellFormed = true → decode (encode i ++ rest) = .ok (i, rest)

/-- Every three bytes hold an instruction at their head: it is well formed, its length is fixed by the first byte, and
encoding it gives back its bytes; so no two instructions share their bytes. -/
def Obligations.EncodeOfDecodeIsBytes : Prop :=
  ∀ (b0 b1 b2 : Byte) (rest : List Byte), ∃ i : Instr,
    decode (b0 :: b1 :: b2 :: rest) = .ok (i, (b0 :: b1 :: b2 :: rest).drop (instrLength b0)) ∧
    i.wellFormed = true ∧ encode i = [b0, b1, b2].take (instrLength b0)

/-- Words written bit by bit from the encodings of the rules decode to the instructions they stand for. -/
def Obligations.SampleWordsDecode : Prop :=
  decode [0b01111000] = .ok (.ldAB, []) ∧
  decode [0b00001110, 0x5A] = .ok (.ldCD8 0x5A, []) ∧
  decode [0b00100001, 0x00, 0xC0] = .ok (.ldHlD16 0xC000, []) ∧
  decode [0b11000101] = .ok (.pushBc, []) ∧
  decode [0b10101111] = .ok (.xorA, []) ∧
  decode [0b00111001] = .ok (.addHlSp, []) ∧
  decode [0b11001011, 0b01111100] = .ok (.bit7H, []) ∧
  decode [0b11001011, 0b11001011] = .ok (.set1E, []) ∧
  decode [0b11010010, 0x00, 0x03] = .ok (.jpNcA16 0x0300, []) ∧
  decode [0b11111111] = .ok (.rst38, []) ∧
  decode [0b01110110] = .ok (.halt, []) ∧
  decode [0b11010011] = .ok (.illegalD3, [])

/-- R63's slot list: a first byte reads as an illegal row if and only if it is one of the eleven. -/
def Obligations.IllegalSlotsAreEleven : Prop :=
  ∀ b0 b1 b2 : Byte,
    (∃ k : IllegalSlot, decodeBytes b0 b1 b2 = .illegal k) ↔
      b0 ∈ ([0xD3, 0xDB, 0xDD, 0xE3, 0xE4, 0xEB, 0xEC, 0xED, 0xF4, 0xFC, 0xFD] : List Byte)

/-- R193: 0xCB and a byte decode to a secondary instruction, the PREFIX CB row does exactly what that instruction does,
and it completes with the cycles of that secondary slot: by default 8 for a register and 16 for (HL). -/
def Obligations.PrefixCbRunsSecondary : Prop :=
  (∀ (op2 : Byte) (rest : List Byte) (s : State), ∃ j : Instr,
    encode (.prefixCb op2) = [0b11001011, op2] ∧ decode (0b11001011 :: op2 :: rest) = .ok (j, rest) ∧
    j.wellFormed = true ∧ (∀ k : IllegalSlot, j ≠ .illegal k) ∧
    ∃ t, exec (.prefixCb op2) s = .next t ∧ exec j s = .next t ∧ t.faultRec = s.faultRec ∧
      t.cycles = (s.timing.entry (.secondary op2)).taken ∧
      (CycleConfig.default.entry (.secondary op2)).taken = if op2.extractLsb' 0 3 = 6 then 16 else 8) ∧
  decode [0b11001011, 0xCB] = .ok (.set1E, [])

/-! ## 8-bit loads and stores -/

/-- R67: LD r,r'. -/
def Obligations.LoadRegisterFromRegister : Prop :=
  ∀ (dst src : R8) (s : State),
    encode (.ldReg dst src) = [0b01#2 ++ dst.code ++ src.code] ∧
    ∃ t, exec (.ldReg dst src) s = .next t ∧ Costs (.ldReg dst src) 4 s t ∧
      t.reg dst = s.reg src ∧
      (∀ r, r ≠ dst → t.reg r = s.reg r) ∧ t.f = s.f ∧ t.sp = s.sp ∧ t.pc = s.pc ∧ SameSystem s t

/-- R68: LD r,d8. -/
def Obligations.LoadRegisterImmediate : Prop :=
  ∀ (dst : R8) (n : Byte) (s : State),
    encode (.ldRegImm dst n) = [0b00#2 ++ dst.code ++ 0b110#3, n] ∧
    ∃ t, exec (.ldRegImm dst n) s = .next t ∧ Costs (.ldRegImm dst n) 8 s t ∧
      t.reg dst = n ∧
      (∀ r, r ≠ dst → t.reg r = s.reg r) ∧ t.f = s.f ∧ t.sp = s.sp ∧ t.pc = s.pc ∧ SameSystem s t

/-- R69: LD r,(HL); the read uses the old HL. -/
def Obligations.LoadRegisterFromHl : Prop :=
  ∀ (dst : R8) (s : State),
    encode (.ldRegAtHl dst) = [0b01#2 ++ dst.code ++ 0b110#3] ∧
    ∃ t, exec (.ldRegAtHl dst) s = .next t ∧ Costs (.ldRegAtHl dst) 8 s t ∧
      t.reg dst = s.busRead s.hl ∧
      (∀ r, r ≠ dst → t.reg r = s.reg r) ∧ t.f = s.f ∧ t.sp = s.sp ∧ t.pc = s.pc ∧ SameSystem s t

/-- R70, R71: LD (HL),r and LD (HL),d8. -/
def Obligations.StoreAtHl : Prop :=
  (∀ (src : R8) (s : State),
    encode (.ldAtHlReg src) = [0b01110#5 ++ src.code] ∧
    ∃ t, exec (.ldAtHlReg src) s = .next t ∧ Costs (.ldAtHlReg src) 8 s t ∧
      WroteByte s.hl (s.reg src) s t ∧ SameCpu s t ∧ SameRest s t) ∧
  (∀ (n : Byte) (s : State),
    encode (.ldAtHlD8 n) = [0b00110110, n] ∧
    ∃ t, exec (.ldAtHlD8 n) s = .next t ∧ Costs (.ldAtHlD8 n) 12 s t ∧
      WroteByte s.hl n s t ∧ SameCpu s t ∧ SameRest s t)

/-- R72, R73: LD (HL+),A and LD (HL-),A. The store uses the old HL; HL moves by one modulo 65536. -/
def Obligations.StoreAThenStepHl : Prop :=
  ∀ (up : Bool) (s : State),
    let i := if up then Instr.ldAtHlIncA else Instr.ldAtHlDecA
    encode i = [if up then 0b00100010 else 0b00110010] ∧
    ∃ t, exec i s = .next t ∧ Costs i 8 s t ∧
      WroteByte s.hl s.a s t ∧
      t.hl.toNat = (if up then s.hl.toNat + 1 else s.hl.toNat + 65535) % 65536 ∧
      (∀ r, r ≠ .h → r ≠ .l → t.reg r = s.reg r) ∧ t.f = s.f ∧ t.sp = s.sp ∧ t.pc = s.pc ∧ SameRest s t

/-- R74, R75: LD A,(HL+) and LD A,(HL-). -/
def Obligations.LoadAThenStepHl : Prop :=
  ∀ (up : Bool) (s : State),
    let i := if up then Instr.ldAAtHlInc else Instr.ldAAtHlDec
    encode i = [if up then 0b00101010 else 0b00111010] ∧
    ∃ t, exec i s = .next t ∧ Costs i 8 s t ∧
      t.a = s.busRead s.hl ∧
      t.hl.toNat = (if up then s.hl.toNat + 1 else s.hl.toNat + 65535) % 65536 ∧
      (∀ r, r ≠ .a → r ≠ .h → r ≠ .l → t.reg r = s.reg r) ∧ t.f = s.f ∧ t.sp = s.sp ∧ t.pc = s.pc ∧
      SameSystem s t

/-- R76, R77, R80, R82, R84: the loads of A from an address: (BC), (DE), (a16), 0xFF00 + n8 and 0xFF00 + C. Each line
is an instruction, its bytes, its cycles and the address it reads. -/
def Obligations.LoadAFromAddress : Prop :=
  ∀ (n : Byte) (a : Word) (s : State),
    ∀ row ∈ ([(.ldAAtBc, [0b00001010], 8, s.bc), (.ldAAtDe, [0b00011010], 8, s.de),
        (.ldAAtA16 a, [0b11111010, loByte a, hiByte a], 16, a),
        (.ldhAAtA8 n, [0b11110000, n], 12, BitVec.ofNat 16 (0xFF00 + n.toNat)),
        (.ldAAtC, [0b11110010], 8, BitVec.ofNat 16 (0xFF00 + s.c.toNat))] :
        List (Instr × List Byte × Nat × Word)),
      encode row.1 = row.2.1 ∧
      ∃ t, exec row.1 s = .next t ∧ Costs row.1 row.2.2.1 s t ∧
        t.a = s.busRead row.2.2.2 ∧
        (∀ r, r ≠ .a → t.reg r = s.reg r) ∧ t.f = s.f ∧ t.sp = s.sp ∧ t.pc = s.pc ∧ SameSystem s t

/-- R78, R79, R81, R83, R85: the stores of A to an address. Each line is an instruction, its bytes, its cycles and the
address it stores to. -/
def Obligations.StoreAToAddress : Prop :=
  ∀ (n : Byte) (a : Word) (s : State),
    ∀ row ∈ ([(.ldAtBcA, [0b00000010], 8, s.bc), (.ldAtDeA, [0b00010010], 8, s.de),
        (.ldAtA16A a, [0b11101010, loByte a, hiByte a], 16, a),
        (.ldhAtA8A n, [0b11100000, n], 12, BitVec.ofNat 16 (0xFF00 + n.toNat)),
        (.ldAtCA, [0b11100010], 8, BitVec.ofNat 16 (0xFF00 + s.c.toNat))] :
        List (Instr × List Byte × Nat × Word)),
      encode row.1 = row.2.1 ∧
      ∃ t, exec row.1 s = .next t ∧ Costs row.1 row.2.2.1 s t ∧
        WroteByte row.2.2.2 s.a s t ∧ SameCpu s t ∧ SameRest s t

/-! ## 16-bit loads and the stack -/

/-- R88, R90: LD rr,d16 and LD SP,HL. A register not in the pair written is unchanged. -/
def Obligations.LoadPair : Prop :=
  (∀ (p : R16) (n : Word) (s : State),
    encode (.ldPair p n) = [0b00#2 ++ p.code ++ 0b0001#4, loByte n, hiByte n] ∧
    ∃ t, exec (.ldPair p n) s = .next t ∧ Costs (.ldPair p n) 12 s t ∧
      t.pair p = n ∧ (∀ q, q ≠ p → t.pair q = s.pair q) ∧ t.a = s.a ∧ t.f = s.f ∧ t.pc = s.pc ∧ SameSystem s t) ∧
  (∀ s : State,
    encode .ldSpHl = [0b11111001] ∧
    ∃ t, exec .ldSpHl s = .next t ∧ Costs .ldSpHl 8 s t ∧
      t.sp = s.hl ∧ SameRegs s t ∧ t.f = s.f ∧ t.pc = s.pc ∧ SameSystem s t)

/-- R89: LD (a16),SP stores the low byte of SP at a16, then the high byte at the next address modulo 65536. -/
def Obligations.StoreSpAtAddress : Prop :=
  ∀ (a : Word) (s : State),
    encode (.ldAtA16Sp a) = [0b00001000, loByte a, hiByte a] ∧
    ∃ m t, exec (.ldAtA16Sp a) s = .next t ∧ Costs (.ldAtA16Sp a) 20 s t ∧
      WroteByte a (BitVec.ofNat 8 s.sp.toNat) s m ∧
      WroteByte (BitVec.ofNat 16 (a.toNat + 1)) (BitVec.ofNat 8 (s.sp.toNat / 256)) m t ∧
      SameCpu s t ∧ SameRest s t

/-- R86, R91: PUSH rr: the high byte at SP - 1, then the low byte at SP - 2, both modulo 65536, and SP 2 less. -/
def Obligations.PushStoresPair : Prop :=
  ∀ (p : R16Stk) (s : State),
    encode (.push p) = [0b11#2 ++ p.code ++ 0b0101#4] ∧
    ∃ m t, exec (.push p) s = .next t ∧ Costs (.push p) 16 s t ∧
      WroteByte (s.sp - 1) (hiByte (s.stkPair p)) s m ∧ WroteByte (s.sp - 2) (loByte (s.stkPair p)) m t ∧
      t.sp = s.sp - 2 ∧ SameRegs s t ∧ t.f = s.f ∧ t.pc = s.pc ∧ SameRest s t

/-- R87, R92, R93: POP rr: the low byte from SP, the high byte from SP + 1, SP 2 more. For AF the low nibble is masked
to zero, and the flags are bits 7 to 4 of the low byte. The second read is a draw of its own at a device (R204), so it
is a read of the state in which the first read has been counted. -/
def Obligations.PopLoadsPair : Prop :=
  ∀ (p : R16Stk) (s : State),
    let lo := s.busRead s.sp
    let hi := s.countRead.busRead (s.sp + 1)
    encode (.pop p) = [0b11#2 ++ p.code ++ 0b0001#4] ∧
    ∃ t, exec (.pop p) s = .next t ∧ Costs (.pop p) 12 s t ∧ t.sp = s.sp + 2 ∧
      (p ≠ .af → (t.stkPair p).toNat = hi.toNat * 256 + lo.toNat) ∧
      (p = .af → t.a = hi ∧ t.f = lo &&& 0xF0 ∧
        HasFlags t (lo.getLsbD 7) (lo.getLsbD 6) (lo.getLsbD 5) (lo.getLsbD 4)) ∧
      (∀ q, q ≠ p → t.stkPair q = s.stkPair q) ∧ t.pc = s.pc ∧ SameSystem s t

/-! ## 8-bit arithmetic and logic -/

/-- R95, R96 and R103 to R108: ADD and ADC, in exact integers. -/
def Obligations.AddWithAndWithoutCarry : Prop :=
  ∀ (withCarry : Bool) (src : AluSrc) (s : State),
    let op := if withCarry then AluOp.adc else AluOp.add
    let a := s.a.toNat
    let v := (s.aluSrc src).toNat
    let cin := if withCarry then s.flagC.toNat else 0
    encode (.alu op src) = aluBytes op src ∧
    ∃ t, exec (.alu op src) s = .next t ∧ Costs (.alu op src) (aluCycles src) s t ∧
      t.a.toNat = (a + v + cin) % 256 ∧
      HasFlags t (decide ((a + v + cin) % 256 = 0)) false (decide (a % 16 + v % 16 + cin > 0x0F))
        (decide (a + v + cin > 0xFF)) ∧
      (∀ r, r ≠ .a → t.reg r = s.reg r) ∧ t.sp = s.sp ∧ t.pc = s.pc ∧ SameSystem s t

/-- R97, R98 and R109 to R114: SUB and SBC, in exact integers. -/
def Obligations.SubtractWithAndWithoutBorrow : Prop :=
  ∀ (withCarry : Bool) (src : AluSrc) (s : State),
    let op := if withCarry then AluOp.sbc else AluOp.sub
    let a := s.a.toNat
    let v := (s.aluSrc src).toNat
    let cin := if withCarry then s.flagC.toNat else 0
    encode (.alu op src) = aluBytes op src ∧
    ∃ t, exec (.alu op src) s = .next t ∧ Costs (.alu op src) (aluCycles src) s t ∧
      (t.a.toNat : Int) = ((a : Int) - v - cin) % 256 ∧
      HasFlags t (decide (((a : Int) - v - cin) % 256 = 0)) true (decide (a % 16 < v % 16 + cin))
        (decide (a < v + cin)) ∧
      (∀ r, r ≠ .a → t.reg r = s.reg r) ∧ t.sp = s.sp ∧ t.pc = s.pc ∧ SameSystem s t

/-- R99 to R101 and R115 to R123: AND, XOR and OR, bit by bit; H is set by AND only, N and C are cleared. -/
def Obligations.LogicOperations : Prop :=
  ∀ (src : AluSrc) (s : State),
    ∀ row ∈ ([(.and, fun x y => x && y, true), (.xor, fun x y => x != y, false), (.or, fun x y => x || y, false)] :
        List (AluOp × (Bool → Bool → Bool) × Bool)),
      encode (.alu row.1 src) = aluBytes row.1 src ∧
      ∃ t, exec (.alu row.1 src) s = .next t ∧ Costs (.alu row.1 src) (aluCycles src) s t ∧
        (∀ k < 8, t.a.getLsbD k = row.2.1 (s.a.getLsbD k) ((s.aluSrc src).getLsbD k)) ∧
        HasFlags t (decide (t.a = 0)) false row.2.2 false ∧
        (∀ r, r ≠ .a → t.reg r = s.reg r) ∧ t.sp = s.sp ∧ t.pc = s.pc ∧ SameSystem s t

/-- R102 and R124 to R126: CP sets SUB's flags and writes no register. -/
def Obligations.CompareSetsFlagsOnly : Prop :=
  ∀ (src : AluSrc) (s : State),
    let a := s.a.toNat
    let v := (s.aluSrc src).toNat
    encode (.alu .cp src) = aluBytes .cp src ∧
    ∃ t, exec (.alu .cp src) s = .next t ∧ Costs (.alu .cp src) (aluCycles src) s t ∧
      HasFlags t (decide (a = v)) true (decide (a % 16 < v % 16)) (decide (a < v)) ∧
      (∃ u, exec (.alu .sub src) s = .next u ∧ u.f = t.f) ∧
      SameRegs s t ∧ t.sp = s.sp ∧ t.pc = s.pc ∧ SameSystem s t

/-- R127, R129: INC r and DEC r; C is kept. -/
def Obligations.IncDecRegister : Prop :=
  (∀ (r : R8) (s : State),
    let v := (s.reg r).toNat
    encode (.inc8 (.reg r)) = [0b00#2 ++ r.code ++ 0b100#3] ∧
    ∃ t, exec (.inc8 (.reg r)) s = .next t ∧ Costs (.inc8 (.reg r)) 4 s t ∧
      (t.reg r).toNat = (v + 1) % 256 ∧
      HasFlags t (decide ((v + 1) % 256 = 0)) false (decide (v % 16 = 0x0F)) s.flagC ∧
      (∀ q, q ≠ r → t.reg q = s.reg q) ∧ t.sp = s.sp ∧ t.pc = s.pc ∧ SameSystem s t) ∧
  (∀ (r : R8) (s : State),
    let v := (s.reg r).toNat
    encode (.dec8 (.reg r)) = [0b00#2 ++ r.code ++ 0b101#3] ∧
    ∃ t, exec (.dec8 (.reg r)) s = .next t ∧ Costs (.dec8 (.reg r)) 4 s t ∧
      (t.reg r).toNat = (v + 255) % 256 ∧
      HasFlags t (decide ((v + 255) % 256 = 0)) true (decide (v % 16 = 0x00)) s.flagC ∧
      (∀ q, q ≠ r → t.reg q = s.reg q) ∧ t.sp = s.sp ∧ t.pc = s.pc ∧ SameSystem s t)

/-- R128, R130: INC (HL) and DEC (HL): a read and a write through the bus; the flags come from the value read. -/
def Obligations.IncDecAtHl : Prop :=
  ∀ (up : Bool) (s : State),
    let i := if up then Instr.inc8 .atHl else Instr.dec8 .atHl
    let v := (s.busRead s.hl).toNat
    let res := (if up then v + 1 else v + 255) % 256
    encode i = [if up then 0b00110100 else 0b00110101] ∧
    ∃ t, exec i s = .next t ∧ Costs i 12 s t ∧
      WroteByte s.hl (BitVec.ofNat 8 res) s t ∧
      HasFlags t (decide (res = 0)) (!up) (decide (v % 16 = if up then 0x0F else 0x00)) s.flagC ∧
      SameRegs s t ∧ t.sp = s.sp ∧ t.pc = s.pc ∧ SameRest s t

/-- R131: DAA. After an addition 0x60 is added if C = 1 or A > 0x99 and 0x06 if H = 1 or the low nibble > 9; after a
subtraction they are subtracted if C = 1 and if H = 1. -/
def Obligations.DecimalAdjust : Prop :=
  ∀ s : State,
    let a := s.a.toNat
    let high := s.flagC || (!s.flagN && decide (a > 0x99))
    let low := s.flagH || (!s.flagN && decide (a % 16 > 0x09))
    let amount : Int := (if high then 0x60 else 0) + (if low then 0x06 else 0)
    let res : Int := (if s.flagN then a - amount else a + amount) % 256
    encode .daa = [0b00100111] ∧
    ∃ t, exec .daa s = .next t ∧ Costs .daa 4 s t ∧
      (t.a.toNat : Int) = res ∧ HasFlags t (decide (res = 0)) s.flagN false high ∧
      (∀ r, r ≠ .a → t.reg r = s.reg r) ∧ t.sp = s.sp ∧ t.pc = s.pc ∧ SameSystem s t

/-- R132, R133, R134: CPL, SCF and CCF. -/
def Obligations.ComplementAndCarryFlags : Prop :=
  ∀ s : State,
    (encode .cpl = [0b00101111] ∧
      ∃ t, exec .cpl s = .next t ∧ Costs .cpl 4 s t ∧
        t.a.toNat = 255 - s.a.toNat ∧ HasFlags t s.flagZ true true s.flagC ∧
        (∀ r, r ≠ .a → t.reg r = s.reg r) ∧ t.sp = s.sp ∧ t.pc = s.pc ∧ SameSystem s t) ∧
    (encode .scf = [0b00110111] ∧
      ∃ t, exec .scf s = .next t ∧ Costs .scf 4 s t ∧
        HasFlags t s.flagZ false false true ∧ SameRegs s t ∧ t.sp = s.sp ∧ t.pc = s.pc ∧ SameSystem s t) ∧
    (encode .ccf = [0b00111111] ∧
      ∃ t, exec .ccf s = .next t ∧ Costs .ccf 4 s t ∧
        HasFlags t s.flagZ false false (!s.flagC) ∧ SameRegs s t ∧ t.sp = s.sp ∧ t.pc = s.pc ∧ SameSystem s t)

/-! ## 16-bit arithmetic -/

/-- R135: ADD HL,rr; Z is kept, H is the carry out of bit 11, C out of bit 15. -/
def Obligations.AddPairToHl : Prop :=
  ∀ (p : R16) (s : State),
    let x := s.hl.toNat
    let v := (s.pair p).toNat
    encode (.addHl p) = [0b00#2 ++ p.code ++ 0b1001#4] ∧
    ∃ t, exec (.addHl p) s = .next t ∧ Costs (.addHl p) 8 s t ∧
      t.hl.toNat = (x + v) % 65536 ∧
      HasFlags t s.flagZ false (decide (x % 4096 + v % 4096 > 0x0FFF)) (decide (x + v > 0xFFFF)) ∧
      (∀ r, r ≠ .h → r ≠ .l → t.reg r = s.reg r) ∧ t.sp = s.sp ∧ t.pc = s.pc ∧ SameSystem s t

/-- R136, R137: INC rr and DEC rr; no flag changes. -/
def Obligations.IncDecPair : Prop :=
  ∀ (up : Bool) (p : R16) (s : State),
    let i := if up then Instr.incPair p else Instr.decPair p
    encode i = [0b00#2 ++ p.code ++ (if up then 0b0011#4 else 0b1011#4)] ∧
    ∃ t, exec i s = .next t ∧ Costs i 8 s t ∧
      (t.pair p).toNat = ((s.pair p).toNat + if up then 1 else 65535) % 65536 ∧
      (∀ q, q ≠ p → t.pair q = s.pair q) ∧ t.a = s.a ∧ t.f = s.f ∧ t.pc = s.pc ∧ SameSystem s t

/-- R138, R139: ADD SP,e8 and LD HL,SP+e8: the offset is signed, the flags are of the unsigned low-byte addition. -/
def Obligations.SpPlusOffset : Prop :=
  ∀ (e : Byte) (s : State),
    let sum : Int := (s.sp.toNat + e.toInt) % 65536
    let h := decide (s.sp.toNat % 16 + e.toNat % 16 > 0x0F)
    let c := decide (s.sp.toNat % 256 + e.toNat > 0xFF)
    (encode (.addSpE8 e) = [0b11101000, e] ∧
      ∃ t, exec (.addSpE8 e) s = .next t ∧ Costs (.addSpE8 e) 16 s t ∧
        (t.sp.toNat : Int) = sum ∧ HasFlags t false false h c ∧ SameRegs s t ∧ t.pc = s.pc ∧ SameSystem s t) ∧
    (encode (.ldHlSpE8 e) = [0b11111000, e] ∧
      ∃ t, exec (.ldHlSpE8 e) s = .next t ∧ Costs (.ldHlSpE8 e) 12 s t ∧
        (t.hl.toNat : Int) = sum ∧ HasFlags t false false h c ∧
        (∀ r, r ≠ .h → r ≠ .l → t.reg r = s.reg r) ∧ t.sp = s.sp ∧ t.pc = s.pc ∧ SameSystem s t)

/-! ## Rotates, shifts and single bits -/

/-- R140 to R143: RLCA, RRCA, RLA and RRA; Z is always cleared. -/
def Obligations.AccumulatorRotates : Prop :=
  ∀ s : State,
    ∀ row ∈ ([(.rlca, [0b00000111], .rlc), (.rrca, [0b00001111], .rrc), (.rla, [0b00010111], .rl),
        (.rra, [0b00011111], .rr)] : List (Instr × List Byte × RotOp)),
      encode row.1 = row.2.1 ∧
      ∃ t, exec row.1 s = .next t ∧ Costs row.1 4 s t ∧
        t.a.toNat = shiftValue row.2.2 s.a.toNat s.flagC.toNat ∧
        HasFlags t false false false (shiftCarry row.2.2 s.a.toNat) ∧
        (∀ r, r ≠ .a → t.reg r = s.reg r) ∧ t.sp = s.sp ∧ t.pc = s.pc ∧ SameSystem s t

/-- R145 to R156: RLC, RRC, RL and RR on a register and on the byte at HL. -/
def Obligations.CbRotates : Prop :=
  ∀ op ∈ [RotOp.rlc, .rrc, .rl, .rr], ∀ (r : R8) (s : State),
    (let v := (s.reg r).toNat
      let res := shiftValue op v s.flagC.toNat
      encode (.rot op (.reg r)) = [0b11001011, 0b00#2 ++ op.code ++ r.code] ∧
      ∃ t, exec (.rot op (.reg r)) s = .next t ∧ Costs (.rot op (.reg r)) 8 s t ∧
        (t.reg r).toNat = res ∧ HasFlags t (decide (res = 0)) false false (shiftCarry op v) ∧
        (∀ q, q ≠ r → t.reg q = s.reg q) ∧ t.sp = s.sp ∧ t.pc = s.pc ∧ SameSystem s t) ∧
    (let v := (s.busRead s.hl).toNat
      let res := shiftValue op v s.flagC.toNat
      encode (.rot op .atHl) = [0b11001011, 0b00#2 ++ op.code ++ 0b110#3] ∧
      ∃ t, exec (.rot op .atHl) s = .next t ∧ Costs (.rot op .atHl) 16 s t ∧
        WroteByte s.hl (BitVec.ofNat 8 res) s t ∧ HasFlags t (decide (res = 0)) false false (shiftCarry op v) ∧
        SameRegs s t ∧ t.sp = s.sp ∧ t.pc = s.pc ∧ SameRest s t)

/-- R157 to R168: SLA, SRA, SWAP and SRL on a register and on the byte at HL. -/
def Obligations.CbShifts : Prop :=
  ∀ op ∈ [RotOp.sla, .sra, .swap, .srl], ∀ (r : R8) (s : State),
    (let v := (s.reg r).toNat
      let res := shiftValue op v s.flagC.toNat
      encode (.rot op (.reg r)) = [0b11001011, 0b00#2 ++ op.code ++ r.code] ∧
      ∃ t, exec (.rot op (.reg r)) s = .next t ∧ Costs (.rot op (.reg r)) 8 s t ∧
        (t.reg r).toNat = res ∧ HasFlags t (decide (res = 0)) false false (shiftCarry op v) ∧
        (∀ q, q ≠ r → t.reg q = s.reg q) ∧ t.sp = s.sp ∧ t.pc = s.pc ∧ SameSystem s t) ∧
    (let v := (s.busRead s.hl).toNat
      let res := shiftValue op v s.flagC.toNat
      encode (.rot op .atHl) = [0b11001011, 0b00#2 ++ op.code ++ 0b110#3] ∧
      ∃ t, exec (.rot op .atHl) s = .next t ∧ Costs (.rot op .atHl) 16 s t ∧
        WroteByte s.hl (BitVec.ofNat 8 res) s t ∧ HasFlags t (decide (res = 0)) false false (shiftCarry op v) ∧
        SameRegs s t ∧ t.sp = s.sp ∧ t.pc = s.pc ∧ SameRest s t)

/-- R169, R170: BIT b,r and BIT b,(HL): Z from the bit, N clear, H set, C kept, nothing else written. -/
def Obligations.BitTest : Prop :=
  ∀ (n : Fin 8) (o : Operand8) (s : State),
    encode (.bitTest n o) = [0b11001011, 0b01#2 ++ BitVec.ofNat 3 n.val ++ o.code] ∧
    ∃ t, exec (.bitTest n o) s = .next t ∧ Costs (.bitTest n o) (if o = .atHl then 16 else 8) s t ∧
      HasFlags t (decide ((s.operand o).toNat / 2 ^ n.val % 2 = 0)) false true s.flagC ∧
      SameRegs s t ∧ t.sp = s.sp ∧ t.pc = s.pc ∧ SameSystem s t

/-- R171, R173: RES b,r and SET b,r: the one bit cleared or set, every other bit and every flag kept. -/
def Obligations.ResetSetBitOfRegister : Prop :=
  ∀ (set : Bool) (n : Fin 8) (r : R8) (s : State),
    let i := if set then Instr.bitSet n (.reg r) else Instr.bitRes n (.reg r)
    encode i = [0b11001011, (if set then 0b11#2 else 0b10#2) ++ BitVec.ofNat 3 n.val ++ r.code] ∧
    ∃ t, exec i s = .next t ∧ Costs i 8 s t ∧
      (∀ k < 8, (t.reg r).getLsbD k = if k = n.val then set else (s.reg r).getLsbD k) ∧
      (∀ q, q ≠ r → t.reg q = s.reg q) ∧ t.f = s.f ∧ t.sp = s.sp ∧ t.pc = s.pc ∧ SameSystem s t

/-- R172, R174: RES b,(HL) and SET b,(HL): the byte read at HL is written back with the one bit cleared or set. -/
def Obligations.ResetSetBitAtHl : Prop :=
  ∀ (set : Bool) (n : Fin 8) (s : State),
    let i := if set then Instr.bitSet n .atHl else Instr.bitRes n .atHl
    encode i = [0b11001011, (if set then 0b11#2 else 0b10#2) ++ BitVec.ofNat 3 n.val ++ 0b110#3] ∧
    ∃ t v, exec i s = .next t ∧ Costs i 16 s t ∧
      (∀ k < 8, BitVec.getLsbD v k = if k = n.val then set else (s.busRead s.hl).getLsbD k) ∧
      WroteByte s.hl v s t ∧ SameCpu s t ∧ SameRest s t

/-! ## Control transfer -/

/-- R175, R177, R178: JP a16, JP HL and JR e8. `s.pc` is PC after the instruction's bytes. -/
def Obligations.UnconditionalJumps : Prop :=
  ∀ (a : Word) (e : Byte) (s : State),
    (encode (.jpA16 a) = [0b11000011, loByte a, hiByte a] ∧
      ∃ t, exec (.jpA16 a) s = .next t ∧ Costs (.jpA16 a) 16 s t ∧ t.pc = a ∧
        SameRegs s t ∧ t.f = s.f ∧ t.sp = s.sp ∧ SameSystem s t) ∧
    (encode .jpHl = [0b11101001] ∧
      ∃ t, exec .jpHl s = .next t ∧ Costs .jpHl 4 s t ∧ t.pc = s.hl ∧
        SameRegs s t ∧ t.f = s.f ∧ t.sp = s.sp ∧ SameSystem s t) ∧
    (encode (.jrE8 e) = [0b00011000, e] ∧
      ∃ t, exec (.jrE8 e) s = .next t ∧ Costs (.jrE8 e) 12 s t ∧
        (t.pc.toNat : Int) = (s.pc.toNat + e.toInt) % 65536 ∧
        SameRegs s t ∧ t.f = s.f ∧ t.sp = s.sp ∧ SameSystem s t)

/-- R176, R179: JP cc,a16 and JR cc,e8, taken and not taken. -/
def Obligations.ConditionalJumps : Prop :=
  ∀ (cc : Cond) (a : Word) (e : Byte) (s : State),
    (encode (.jpCond cc a) = [0b110#3 ++ cc.code ++ 0b010#3, loByte a, hiByte a] ∧
      ∃ t, exec (.jpCond cc a) s = .next t ∧
        (if condHolds cc s then t.pc = a ∧ Costs (.jpCond cc a) 16 s t
          else t.pc = s.pc ∧ CostsNotTaken (.jpCond cc a) 12 s t) ∧
        SameRegs s t ∧ t.f = s.f ∧ t.sp = s.sp ∧ SameSystem s t) ∧
    (encode (.jrCond cc e) = [0b001#3 ++ cc.code ++ 0b000#3, e] ∧
      ∃ t, exec (.jrCond cc e) s = .next t ∧
        (if condHolds cc s then (t.pc.toNat : Int) = (s.pc.toNat + e.toInt) % 65536 ∧ Costs (.jrCond cc e) 12 s t
          else t.pc = s.pc ∧ CostsNotTaken (.jrCond cc e) 8 s t) ∧
        SameRegs s t ∧ t.f = s.f ∧ t.sp = s.sp ∧ SameSystem s t)

/-- R180, R182: CALL a16 and RST t push PC after the instruction and jump. -/
def Obligations.CallsAndRestarts : Prop :=
  (∀ (a : Word) (s : State),
    encode (.callA16 a) = [0b11001101, loByte a, hiByte a] ∧
    ∃ m t, exec (.callA16 a) s = .next t ∧ Costs (.callA16 a) 24 s t ∧ t.pc = a ∧ t.sp = s.sp - 2 ∧
      WroteByte (s.sp - 1) (hiByte s.pc) s m ∧ WroteByte (s.sp - 2) (loByte s.pc) m t ∧
      SameRegs s t ∧ t.f = s.f ∧ SameRest s t) ∧
  (∀ (y : Fin 8) (s : State),
    encode (.rst y) = [0b11#2 ++ BitVec.ofNat 3 y.val ++ 0b111#3] ∧
    ∃ m t, exec (.rst y) s = .next t ∧ Costs (.rst y) 16 s t ∧ t.pc.toNat = y.val * 8 ∧ t.sp = s.sp - 2 ∧
      WroteByte (s.sp - 1) (hiByte s.pc) s m ∧ WroteByte (s.sp - 2) (loByte s.pc) m t ∧
      SameRegs s t ∧ t.f = s.f ∧ SameRest s t)

/-- R181: CALL cc,a16; not taken, nothing is written to memory and SP is unchanged. -/
def Obligations.ConditionalCalls : Prop :=
  ∀ (cc : Cond) (a : Word) (s : State),
    encode (.callCond cc a) = [0b110#3 ++ cc.code ++ 0b100#3, loByte a, hiByte a] ∧
    ∃ t, exec (.callCond cc a) s = .next t ∧ SameRegs s t ∧ t.f = s.f ∧ SameRest s t ∧
      (if condHolds cc s then
        t.pc = a ∧ Costs (.callCond cc a) 24 s t ∧ t.sp = s.sp - 2 ∧
        ∃ m, WroteByte (s.sp - 1) (hiByte s.pc) s m ∧ WroteByte (s.sp - 2) (loByte s.pc) m t
      else t.pc = s.pc ∧ CostsNotTaken (.callCond cc a) 12 s t ∧ t.sp = s.sp ∧ SameSystem s t)

/-- R183, R185: RET and RETI pop PC; RETI sets IME at once and does not change EiDelay. -/
def Obligations.ReturnsPopPc : Prop :=
  ∀ s : State,
    let lo := s.busRead s.sp
    let hi := s.countRead.busRead (s.sp + 1)
    (encode .ret = [0b11001001] ∧
      ∃ t, exec .ret s = .next t ∧ Costs .ret 16 s t ∧ t.pc.toNat = hi.toNat * 256 + lo.toNat ∧ t.sp = s.sp + 2 ∧
        SameRegs s t ∧ t.f = s.f ∧ SameSystem s t) ∧
    (encode .reti = [0b11011001] ∧
      ∃ t, exec .reti s = .next t ∧ Costs .reti 16 s t ∧ t.pc.toNat = hi.toNat * 256 + lo.toNat ∧ t.sp = s.sp + 2 ∧
        t.ime = true ∧ SameRegs s t ∧ t.f = s.f ∧ SameSystem s { t with ime := s.ime })

/-- R184: RET cc; not taken, SP and memory are unchanged and it costs less. -/
def Obligations.ConditionalReturns : Prop :=
  ∀ (cc : Cond) (s : State),
    let lo := s.busRead s.sp
    let hi := s.countRead.busRead (s.sp + 1)
    encode (.retCond cc) = [0b110#3 ++ cc.code ++ 0b000#3] ∧
    ∃ t, exec (.retCond cc) s = .next t ∧ SameRegs s t ∧ t.f = s.f ∧ SameSystem s t ∧
      (if condHolds cc s then
        t.pc.toNat = hi.toNat * 256 + lo.toNat ∧ t.sp = s.sp + 2 ∧ Costs (.retCond cc) 20 s t
      else t.pc = s.pc ∧ t.sp = s.sp ∧ CostsNotTaken (.retCond cc) 8 s t)

/-! ## System instructions, interrupts and the fault -/

/-- R187, R188, R189, R210: NOP does nothing; HALT and STOP leave RUN; a halted core stays so until an enabled request
is pending, a stopped core until that or `stop_wake`; an idle step costs `HaltIdleCycles`, by default 4, and changes
nothing else; a core that wakes with IME = 1 dispatches and one that wakes with IME = 0 fetches, in the same step; the
PPU keeps running on the idle cycles. -/
def Obligations.NopHaltStopAndWake : Prop :=
  (∀ s : State, encode .nop = [0b00000000] ∧ 
    ∃ t, exec .nop s = .next t ∧ Costs .nop 4 s t ∧ t = { s with cycles := t.cycles }) ∧
  (∀ s : State, encode .halt = [0b01110110] ∧ 
    ∃ t, exec .halt s = .next t ∧ Costs .halt 4 s t ∧ t = { s with cycles := t.cycles, power := .halted }) ∧
  (∀ (pad : Byte) (s : State), encode (.stop pad) = [0b00010000, pad] ∧
    ∃ t, exec (.stop pad) s = .next t ∧ Costs (.stop pad) 4 s t ∧
      t = { s with cycles := t.cycles, power := .stopped }) ∧
  (∀ (wake : Bool) (s : State), s.faultRec = none →
    let asleep := (s.power = .halted ∧ s.ie.setWidth 5 &&& s.ifReg = 0) ∨
      (s.power = .stopped ∧ s.ie.setWidth 5 &&& s.ifReg = 0 ∧ wake = false)
    (asleep → cpuStep wake s = .next { s with cycles := s.timing.haltIdle, opcode := [] }) ∧
    (¬ asleep → s.ime = true → s.ie.setWidth 5 &&& s.ifReg ≠ 0 →
      ∃ i, cpuStep wake s = .next (State.dispatchStep i { s with power := .run })) ∧
    (¬ asleep → (s.ime = false ∨ s.ie.setWidth 5 &&& s.ifReg = 0) →
      cpuStep wake s = mapNext State.endInstruction (exec s.instrAt { s.afterFetch with power := .run }))) ∧
  (∀ s : State, s.faultRec = none → s.latchInput.staysIdle s.nextInput.stopWake = true →
    step s = .next (State.ppuStep s.timing.haltIdle { s.latchInput with cycles := s.timing.haltIdle, opcode := [] })) ∧
  CycleConfig.default.haltIdle = 4

/-- R190, R191, R192: DI clears IME and EiDelay; EI starts EiDelay and does not write IME; the end of a step that
executed an instruction counts EiDelay down and sets IME when it reaches 0; a step that faults, idles or dispatches
does not. -/
def Obligations.DisableEnableInterrupts : Prop :=
  (∀ s : State, encode .di = [0b11110011] ∧ 
    ∃ t, exec .di s = .next t ∧ Costs .di 4 s t ∧ t = { s with cycles := t.cycles, ime := false, eiDelay := 0 }) ∧
  (∀ s : State, encode .ei = [0b11111011] ∧
    ∃ t, exec .ei s = .next t ∧ Costs .ei 4 s t ∧
      t = { s with cycles := t.cycles, eiDelay := if s.eiDelay = 0 then 2 else s.eiDelay }) ∧
  (∀ s : State, s.faultRec = none →
    (s.eiDelay = 0 → s.endInstruction = s) ∧
    (s.eiDelay = 1 → s.endInstruction = { s with eiDelay := 0, ime := true }) ∧
    (s.eiDelay = 2 → s.endInstruction = { s with eiDelay := 1 })) ∧
  (∀ s : State, s.faultRec ≠ none → s.endInstruction = s) ∧
  (∀ (wake : Bool) (s : State), s.faultRec = none →
    (s.staysIdle wake = true →
      ∃ t, cpuStep wake s = .next t ∧ t.eiDelay = s.eiDelay ∧ t.ime = s.ime) ∧
    (s.staysIdle wake = false → ∀ i, s.interruptTaken = some i →
      ∃ t, cpuStep wake s = .next t ∧ t.eiDelay = 0 ∧ t.ime = false) ∧
    (s.staysIdle wake = false → s.interruptTaken = none →
      cpuStep wake s = mapNext State.endInstruction (exec s.wake.instrAt s.wake.afterFetch)))

/-- R194: fetching an illegal slot records the fault (UnknownOpcode, the byte, its address) and leaves PC there; nothing
else of the core changes, the PPU is not stepped, and every later step returns that fault. A step that returns the fault
answers the state after it, and `State.result` is what it returns (log entry 4). -/
def Obligations.IllegalOpcodeRaisesFault : Prop :=
  (∀ (k : IllegalSlot) (s : State), encode (.illegal k) = [k.opcode] ∧
    exec (.illegal k) s = .next { s with
      faultRec := some { kind := .unknownOpcode, opcode := k.opcode, pc := s.pc - 1 }, pc := s.pc - 1 }) ∧
  (∀ (s : State) (k : IllegalSlot), s.latchInput.fetches → s.latchInput.busRead s.pc = k.opcode →
    ∃ t, step s = .next t ∧
      t = { s.latchInput with
        faultRec := some { kind := .unknownOpcode, opcode := k.opcode, pc := s.pc }
        reads := s.reads + 1
        opcode := [k.opcode] } ∧
      t.result = .fault { kind := .unknownOpcode, opcode := k.opcode, pc := s.pc } ∧
      step t = .next t.latchInput ∧ t.latchInput.result = t.result) ∧
  (∀ (s : State) (r : FaultRec), s.faultRec = some r →
    (∀ wake : Bool, cpuStep wake s = .fault (.faulted r)) ∧
    step s = .next s.latchInput ∧ s.latchInput.result = .fault r)

/-- R199: the source dispatched is the lowest-numbered bit of IE & IF & 0x1F, and none while IME is 0; the interrupt
check comes after the wake and before the fetch, whatever the next opcode; a faulted core takes no interrupt. -/
def Obligations.DispatchPriority : Prop :=
  (∀ (s : State) (i : IntSource),
    s.interruptTaken = some i ↔
      s.ime = true ∧ s.ie.getLsbD i.bit = true ∧ s.ifReg.getLsbD i.bit = true ∧
      ∀ j : IntSource, j.bit < i.bit → (s.ie.getLsbD j.bit && s.ifReg.getLsbD j.bit) = false) ∧
  (∀ (wake : Bool) (s : State) (i : IntSource), s.faultRec = none → s.interruptTaken = some i →
    cpuStep wake s = .next (State.dispatchStep i { s with power := .run })) ∧
  (∀ (wake : Bool) (s : State) (r : FaultRec), s.faultRec = some r → cpuStep wake s = .fault (.faulted r))

/-- R200: a dispatch step pushes PC, clears IME and EiDelay, clears the request bit after the push, jumps to the vector
0x0040 + 8 * i and costs `IntDispatchCycles`, by default 20; nothing else changes. -/
def Obligations.DispatchTakesInterrupt : Prop :=
  ∀ (wake : Bool) (s : State) (i : IntSource),
    s.faultRec = none → s.interruptTaken = some i →
    CycleConfig.default.intDispatch = 20 ∧
    ∃ m1 m2 t, cpuStep wake s = .next t ∧ t.cycles = s.timing.intDispatch ∧ t.timing = s.timing ∧
      WroteByte (s.sp - 1) (hiByte s.pc) s m1 ∧ WroteByte (s.sp - 2) (loByte s.pc) m1 m2 ∧
      t.sp = s.sp - 2 ∧ t.pc.toNat = 0x0040 + 8 * i.bit ∧ t.ime = false ∧ t.eiDelay = 0 ∧ t.power = .run ∧
      (∀ k < 5, t.ifReg.getLsbD k = (m2.ifReg.getLsbD k && decide (k ≠ i.bit))) ∧
      t.mem = m2.mem ∧ t.ie = m2.ie ∧ t.events = m2.events ∧
      SameRegs s t ∧ t.f = s.f ∧ t.faultRec = none ∧ SamePpu s t ∧ t.opcode = [] ∧ t.inputs = s.inputs

/-! ## The bus and the loader -/

/-- R37 to R42 and R44: the address map, for every address: what a read returns and what a write does. Two clauses are
the model's choice: a read of a peripheral address, a draw in R204, is `Config.periphRead` of the address and the read
counter (log entry 2), and LY reads Line modulo 256, which differs from Line only in states no run reaches (log
entry 10). -/
def Obligations.BusFollowsMap : Prop :=
  ∀ (a : Word) (v : Byte) (s : State),
    let n := a.toNat
    let stored (w : Byte) (t : State) : Prop :=
      t = { s with mem := t.mem } ∧ ∀ k, t.mem.get k = if k = n then w else s.mem.get k
    (n ≤ 0x7FFF → s.busRead a = s.mem.get n ∧ s.memWrite a v = { s with events := .ignoredWrite a v :: s.events }) ∧
    (0x8000 ≤ n → n ≤ 0xDFFF → s.busRead a = s.mem.get n ∧ stored v (s.memWrite a v)) ∧
    (0xE000 ≤ n → n ≤ 0xFDFF → s.busRead a = 0x00 ∧ s.memWrite a v = s) ∧
    (0xFE00 ≤ n → n ≤ 0xFE9F → s.busRead a = s.mem.get n ∧ stored v (s.memWrite a v)) ∧
    (0xFEA0 ≤ n → n ≤ 0xFEFF →
      s.busRead a = 0x00 ∧ s.memWrite a v = { s with events := .ignoredWrite a v :: s.events }) ∧
    (n ∈ [0xFF00, 0xFF04, 0xFF05, 0xFF06, 0xFF07] →
      s.busRead a = Config.periphRead a s.reads ∧ s.memWrite a v = { s with events := .periphWrite a v :: s.events }) ∧
    (n = 0xFF0F → s.busRead a = 0b111#3 ++ s.ifReg ∧ s.memWrite a v = { s with ifReg := v.setWidth 5 }) ∧
    (n = 0xFF41 → s.busRead a = (s.mem.get n).extractLsb' 2 6 ++ s.mode.number.setWidth 2 ∧
      stored (v &&& 0xFC) (s.memWrite a v)) ∧
    (n = 0xFF44 → s.busRead a = BitVec.ofNat 8 s.line ∧ s.memWrite a v = s) ∧
    (0xFF00 ≤ n → n ≤ 0xFFFE → n ∉ [0xFF00, 0xFF04, 0xFF05, 0xFF06, 0xFF07, 0xFF0F, 0xFF41, 0xFF44] →
      s.busRead a = s.mem.get n ∧ stored v (s.memWrite a v)) ∧
    (n = 0xFFFF → s.busRead a = s.ie ∧ s.memWrite a v = { s with ie := v })

/-- R53: `load` fails whole when the image does not fit, and otherwise writes the backing array and nothing else. -/
def Obligations.LoadInstallsImage : Prop :=
  ∀ (base : Word) (bytes : List Byte) (s : State),
    (base.toNat + bytes.length > 0x10000 → s.load base bytes = none) ∧
    (base.toNat + bytes.length ≤ 0x10000 →
      ∃ t, s.load base bytes = some t ∧ t = { s with mem := t.mem } ∧
        (∀ i, i < bytes.length → t.mem.get (base.toNat + i) = bytes.getD i 0) ∧
        (∀ a, a < base.toNat ∨ base.toNat + bytes.length ≤ a → t.mem.get a = s.mem.get a))

/-! ## The PPU -/

/-- R213 (with R212): `PpuStep(n)` as the rule's loop: below the budget it returns with n added to Counter; otherwise
the transition of the current Mode, and the loop again; it ends with Counter below the budget of its Mode. -/
def Obligations.PpuStepIsTheLoop : Prop :=
  ∀ (n : Nat) (s : State),
    let c := s.counter + n
    (s.mode = .oam → s.ppuStep n =
      if c < 80 then { s with counter := c }
      else State.ppuStep 0 { s with counter := c - 80, mode := .xfer }) ∧
    (s.mode = .xfer → s.ppuStep n =
      if c < 172 then { s with counter := c }
      else State.ppuStep 0 { s with
        counter := c - 172, mode := .hblank
        fb := if (s.mem.get 0xFF40).getLsbD 7 then (s.renderLine s.line).fb else s.fb }) ∧
    (s.mode = .hblank → s.ppuStep n =
      if c < 204 then { s with counter := c }
      else if s.line + 1 = 144 then
        State.ppuStep 0 { s with counter := c - 204, line := 144, mode := .vblank, ifReg := s.ifReg ||| 0x01 }
      else State.ppuStep 0 { s with counter := c - 204, line := s.line + 1, mode := .oam }) ∧
    (s.mode = .vblank → s.ppuStep n =
      if c < 456 then { s with counter := c }
      else if s.line + 1 = 154 then State.ppuStep 0 { s with counter := c - 456, line := 0, mode := .oam }
      else State.ppuStep 0 { s with counter := c - 456, line := s.line + 1 }) ∧
    (s.ppuStep n).counter < (match (s.ppuStep n).mode with | .oam => 80 | .xfer => 172 | .hblank => 204 | .vblank => 456)

/-- How the cycles are split over calls makes no difference: the PPU depends on their sum only. -/
def Obligations.PpuStepsAddUp : Prop :=
  ∀ (ns : List Nat) (s : State) (n : Nat),
    ns.foldl (fun t k => t.ppuStep k) (s.ppuStep n) = s.ppuStep (n + ns.sum)

/-- R218: from (OAM, Line 0, Counter 0), calls that add up to at most 70,224 cycles leave Line at sum / 456; IF bit 0 is
requested at 65,664 cycles and not before; row y is rendered at 456 * y + 252 cycles, if LCDC[7] is 1, and not before;
at 70,224 the PPU is at (OAM, Line 0, Counter 0) again. -/
def Obligations.FrameReturnsToStart : Prop :=
  ∀ (ns : List Nat) (s : State),
    s.mode = .oam → s.line = 0 → s.counter = 0 → ns.sum ≤ 70224 →
    let t := ns.foldl (fun u k => u.ppuStep k) s
    (ns.sum = 70224 → t.mode = .oam ∧ t.line = 0 ∧ t.counter = 0) ∧
    t.line = ns.sum / 456 % 154 ∧
    t.ifReg = (if 65664 ≤ ns.sum then s.ifReg ||| 0x01 else s.ifReg) ∧
    (∀ y : Fin 144, t.fb[y] =
      if (s.mem.get 0xFF40).getLsbD 7 = true ∧ 456 * y.val + 252 ≤ ns.sum then s.scanline y.val else s.fb[y]) ∧
    t = { s with mode := t.mode, line := t.line, counter := t.counter, ifReg := t.ifReg, fb := t.fb }

/-- R216: `RenderLine(ly)` writes row ly of the framebuffer, pixel by pixel as the rule computes it, and nothing else.
It happens at the transition from XFER to HBLANK if LCDC[7] = 1; otherwise the line keeps its old contents. -/
def Obligations.RenderLineWritesRow : Prop :=
  (∀ (s : State) (ly : Fin 144),
    (∀ x : Fin 160,
      let mem (n : Int) : Nat := (s.mem.get n.toNat).toNat
      let bit (v k : Nat) : Nat := v / 2 ^ k % 2
      let y : Nat := (ly.val + mem 0xFF42) % 256
      let xx : Nat := (x.val + mem 0xFF43) % 256
      let map : Nat := if bit (mem 0xFF40) 3 = 1 then 0x9C00 else 0x9800
      let idx : Nat := mem (map + y / 8 * 32 + xx / 8)
      let tile : Int :=
        if bit (mem 0xFF40) 4 = 1 then 0x8000 + idx * 16
        else 0x9000 + (if idx < 128 then (idx : Int) else idx - 256) * 16
      let row : Int := tile + y % 8 * 2
      let b : Nat := 7 - xx % 8
      let c : Nat := bit (mem (row + 1)) b * 2 + bit (mem row) b
      (((s.renderLine ly.val).fb[ly])[x]).toNat = mem 0xFF47 / 4 ^ c % 4) ∧
    (∀ k : Fin 144, k ≠ ly → (s.renderLine ly.val).fb[k] = s.fb[k]) ∧
    s.renderLine ly.val = { s with fb := (s.renderLine ly.val).fb }) ∧
  (∀ (s : State) (n : Nat), s.mode = .xfer → 172 ≤ s.counter + n → s.counter + n < 172 + 204 →
    s.ppuStep n = { s with
      counter := s.counter + n - 172
      mode := .hblank
      fb := if (s.mem.get 0xFF40).getLsbD 7 then (s.renderLine s.line).fb else s.fb })

/-! ## Whole-machine rules -/

/-- No step ever changes a byte of the ROM range (R39, R225). -/
def Obligations.RomNeverChanges : Prop :=
  ∀ s t : State, step s = .next t → ∀ a : Nat, a < 0x8000 → t.mem.get a = s.mem.get a

/-- During a CPU step the PPU's state does not change (R48): only the PPU writes it (R33). Nor do the inputs to come and
the cycle parameters, which are configuration (R8; log entries 1 and 3). -/
def Obligations.CpuStepLeavesPpu : Prop :=
  ∀ (wake : Bool) (s t : State), cpuStep wake s = .next t → SamePpu s t ∧ t.inputs = s.inputs ∧ t.timing = s.timing

/-- IME becomes 1 in a step only if RETI ran in it or the step before it left EiDelay at 1 (R21, R192, R224). -/
def Obligations.ImeRisesOnlyByEiOrReti : Prop :=
  ∀ s t : State, step s = .next t → s.ime = false → t.ime = true →
    s.eiDelay = 1 ∨ s.latchInput.instrAt = .reti

/-- Every instruction answers a next state, with the stack and every other operand whatever they are, and only an
illegal slot records a fault (R11, R197). An illegal slot does not complete: the state it answers holds the fault that
its step returns (R194, log entry 4). -/
def Obligations.OnlyIllegalSlotsFault : Prop :=
  ∀ (i : Instr) (s : State), ∃ t, exec i s = .next t ∧
    (t.faultRec = s.faultRec ∨
      ∃ k : IllegalSlot, i = .illegal k ∧
        t.faultRec = some { kind := .unknownOpcode, opcode := k.opcode, pc := s.pc - 1 })

/-- A system step latches `irq_in[4:2]` into IF, runs one CPU step on `stop_wake`, and then advances the PPU by exactly
the cycles it returned; after a fault the PPU is not stepped (R203). No input listed stands for no request (log
entry 3). A step that returns the fault answers the state after it, and `State.result` is the fault it returns: the
latched state on a core that was faulted, the state with the new record on one that faults in this step (log entry 4). -/
def Obligations.SystemStepCouplesCpuAndPpu : Prop :=
  ∀ (s : State) (input : StepInput) (rest : List StepInput),
    s.inputs = input :: rest ∨ (s.inputs = [] ∧ input = { irq := 0, stopWake := false } ∧ rest = []) →
    ∃ s1 : State,
      s1 = { s with ifReg := s1.ifReg, inputs := rest } ∧
      (∀ k < 5, s1.ifReg.getLsbD k = (s.ifReg.getLsbD k || (decide (2 ≤ k) && input.irq.getLsbD k))) ∧
      (∀ r, cpuStep input.stopWake s1 = .fault (.faulted r) → step s = .next s1 ∧ s1.result = .fault r) ∧
      (∀ c r, cpuStep input.stopWake s1 = .next c → c.faultRec = some r → step s = .next c ∧ c.result = .fault r) ∧
      (∀ c, cpuStep input.stopWake s1 = .next c → c.faultRec = none →
        step s = .next (c.ppuStep c.cycles) ∧ (c.ppuStep c.cycles).result = .ok c.cycles) ∧
      (∀ r, cpuStep input.stopWake s1 ≠ .refused r)

end
end

