-- ==== Sys2Proof/Laws/State.lean ====
section
/-! SUPPORT. Sys2Proof/Laws/State.lean: one lemma per field per update: what each named update of the state leaves of
each field, so that no proof unfolds a record update. -/

namespace Sys2Proof.Machine

/-! ### `setF` -/

@[simp] theorem State.setF_a (v : Byte) (s : State) : (s.setF v).a = s.a := rfl
@[simp] theorem State.setF_f (v : Byte) (s : State) : (s.setF v).f = v &&& 0xF0 := rfl
@[simp] theorem State.setF_b (v : Byte) (s : State) : (s.setF v).b = s.b := rfl
@[simp] theorem State.setF_c (v : Byte) (s : State) : (s.setF v).c = s.c := rfl
@[simp] theorem State.setF_d (v : Byte) (s : State) : (s.setF v).d = s.d := rfl
@[simp] theorem State.setF_e (v : Byte) (s : State) : (s.setF v).e = s.e := rfl
@[simp] theorem State.setF_h (v : Byte) (s : State) : (s.setF v).h = s.h := rfl
@[simp] theorem State.setF_l (v : Byte) (s : State) : (s.setF v).l = s.l := rfl
@[simp] theorem State.setF_sp (v : Byte) (s : State) : (s.setF v).sp = s.sp := rfl
@[simp] theorem State.setF_pc (v : Byte) (s : State) : (s.setF v).pc = s.pc := rfl
@[simp] theorem State.setF_ime (v : Byte) (s : State) : (s.setF v).ime = s.ime := rfl
@[simp] theorem State.setF_eiDelay (v : Byte) (s : State) : (s.setF v).eiDelay = s.eiDelay := rfl
@[simp] theorem State.setF_power (v : Byte) (s : State) : (s.setF v).power = s.power := rfl
@[simp] theorem State.setF_faultRec (v : Byte) (s : State) : (s.setF v).faultRec = s.faultRec := rfl
@[simp] theorem State.setF_mem (v : Byte) (s : State) : (s.setF v).mem = s.mem := rfl
@[simp] theorem State.setF_ifReg (v : Byte) (s : State) : (s.setF v).ifReg = s.ifReg := rfl
@[simp] theorem State.setF_ie (v : Byte) (s : State) : (s.setF v).ie = s.ie := rfl
@[simp] theorem State.setF_mode (v : Byte) (s : State) : (s.setF v).mode = s.mode := rfl
@[simp] theorem State.setF_line (v : Byte) (s : State) : (s.setF v).line = s.line := rfl
@[simp] theorem State.setF_counter (v : Byte) (s : State) : (s.setF v).counter = s.counter := rfl
@[simp] theorem State.setF_fb (v : Byte) (s : State) : (s.setF v).fb = s.fb := rfl
@[simp] theorem State.setF_cycles (v : Byte) (s : State) : (s.setF v).cycles = s.cycles := rfl
@[simp] theorem State.setF_opcode (v : Byte) (s : State) : (s.setF v).opcode = s.opcode := rfl
@[simp] theorem State.setF_events (v : Byte) (s : State) : (s.setF v).events = s.events := rfl
@[simp] theorem State.setF_reads (v : Byte) (s : State) : (s.setF v).reads = s.reads := rfl
@[simp] theorem State.setF_inputs (v : Byte) (s : State) : (s.setF v).inputs = s.inputs := rfl
@[simp] theorem State.setF_timing (v : Byte) (s : State) : (s.setF v).timing = s.timing := rfl

/-! ### `setFlags` -/

@[simp] theorem State.setFlags_a (z n h c : Bool) (s : State) : (s.setFlags z n h c).a = s.a := rfl
@[simp] theorem State.setFlags_b (z n h c : Bool) (s : State) : (s.setFlags z n h c).b = s.b := rfl
@[simp] theorem State.setFlags_c (z n h c : Bool) (s : State) : (s.setFlags z n h c).c = s.c := rfl
@[simp] theorem State.setFlags_d (z n h c : Bool) (s : State) : (s.setFlags z n h c).d = s.d := rfl
@[simp] theorem State.setFlags_e (z n h c : Bool) (s : State) : (s.setFlags z n h c).e = s.e := rfl
@[simp] theorem State.setFlags_h (z n h c : Bool) (s : State) : (s.setFlags z n h c).h = s.h := rfl
@[simp] theorem State.setFlags_l (z n h c : Bool) (s : State) : (s.setFlags z n h c).l = s.l := rfl
@[simp] theorem State.setFlags_sp (z n h c : Bool) (s : State) : (s.setFlags z n h c).sp = s.sp := rfl
@[simp] theorem State.setFlags_pc (z n h c : Bool) (s : State) : (s.setFlags z n h c).pc = s.pc := rfl
@[simp] theorem State.setFlags_ime (z n h c : Bool) (s : State) : (s.setFlags z n h c).ime = s.ime := rfl
@[simp] theorem State.setFlags_eiDelay (z n h c : Bool) (s : State) : (s.setFlags z n h c).eiDelay = s.eiDelay := rfl
@[simp] theorem State.setFlags_power (z n h c : Bool) (s : State) : (s.setFlags z n h c).power = s.power := rfl
@[simp] theorem State.setFlags_faultRec (z n h c : Bool) (s : State) : (s.setFlags z n h c).faultRec = s.faultRec := rfl
@[simp] theorem State.setFlags_mem (z n h c : Bool) (s : State) : (s.setFlags z n h c).mem = s.mem := rfl
@[simp] theorem State.setFlags_ifReg (z n h c : Bool) (s : State) : (s.setFlags z n h c).ifReg = s.ifReg := rfl
@[simp] theorem State.setFlags_ie (z n h c : Bool) (s : State) : (s.setFlags z n h c).ie = s.ie := rfl
@[simp] theorem State.setFlags_mode (z n h c : Bool) (s : State) : (s.setFlags z n h c).mode = s.mode := rfl
@[simp] theorem State.setFlags_line (z n h c : Bool) (s : State) : (s.setFlags z n h c).line = s.line := rfl
@[simp] theorem State.setFlags_counter (z n h c : Bool) (s : State) : (s.setFlags z n h c).counter = s.counter := rfl
@[simp] theorem State.setFlags_fb (z n h c : Bool) (s : State) : (s.setFlags z n h c).fb = s.fb := rfl
@[simp] theorem State.setFlags_cycles (z n h c : Bool) (s : State) : (s.setFlags z n h c).cycles = s.cycles := rfl
@[simp] theorem State.setFlags_opcode (z n h c : Bool) (s : State) : (s.setFlags z n h c).opcode = s.opcode := rfl
@[simp] theorem State.setFlags_events (z n h c : Bool) (s : State) : (s.setFlags z n h c).events = s.events := rfl
@[simp] theorem State.setFlags_reads (z n h c : Bool) (s : State) : (s.setFlags z n h c).reads = s.reads := rfl
@[simp] theorem State.setFlags_inputs (z n h c : Bool) (s : State) : (s.setFlags z n h c).inputs = s.inputs := rfl
@[simp] theorem State.setFlags_timing (z n h c : Bool) (s : State) : (s.setFlags z n h c).timing = s.timing := rfl

/-! ### `countRead` -/

@[simp] theorem State.countRead_a (s : State) : (s.countRead).a = s.a := rfl
@[simp] theorem State.countRead_f (s : State) : (s.countRead).f = s.f := rfl
@[simp] theorem State.countRead_b (s : State) : (s.countRead).b = s.b := rfl
@[simp] theorem State.countRead_c (s : State) : (s.countRead).c = s.c := rfl
@[simp] theorem State.countRead_d (s : State) : (s.countRead).d = s.d := rfl
@[simp] theorem State.countRead_e (s : State) : (s.countRead).e = s.e := rfl
@[simp] theorem State.countRead_h (s : State) : (s.countRead).h = s.h := rfl
@[simp] theorem State.countRead_l (s : State) : (s.countRead).l = s.l := rfl
@[simp] theorem State.countRead_sp (s : State) : (s.countRead).sp = s.sp := rfl
@[simp] theorem State.countRead_pc (s : State) : (s.countRead).pc = s.pc := rfl
@[simp] theorem State.countRead_ime (s : State) : (s.countRead).ime = s.ime := rfl
@[simp] theorem State.countRead_eiDelay (s : State) : (s.countRead).eiDelay = s.eiDelay := rfl
@[simp] theorem State.countRead_power (s : State) : (s.countRead).power = s.power := rfl
@[simp] theorem State.countRead_faultRec (s : State) : (s.countRead).faultRec = s.faultRec := rfl
@[simp] theorem State.countRead_mem (s : State) : (s.countRead).mem = s.mem := rfl
@[simp] theorem State.countRead_ifReg (s : State) : (s.countRead).ifReg = s.ifReg := rfl
@[simp] theorem State.countRead_ie (s : State) : (s.countRead).ie = s.ie := rfl
@[simp] theorem State.countRead_mode (s : State) : (s.countRead).mode = s.mode := rfl
@[simp] theorem State.countRead_line (s : State) : (s.countRead).line = s.line := rfl
@[simp] theorem State.countRead_counter (s : State) : (s.countRead).counter = s.counter := rfl
@[simp] theorem State.countRead_fb (s : State) : (s.countRead).fb = s.fb := rfl
@[simp] theorem State.countRead_cycles (s : State) : (s.countRead).cycles = s.cycles := rfl
@[simp] theorem State.countRead_opcode (s : State) : (s.countRead).opcode = s.opcode := rfl
@[simp] theorem State.countRead_events (s : State) : (s.countRead).events = s.events := rfl
@[simp] theorem State.countRead_reads (s : State) : (s.countRead).reads = s.reads + 1 := rfl
@[simp] theorem State.countRead_inputs (s : State) : (s.countRead).inputs = s.inputs := rfl
@[simp] theorem State.countRead_timing (s : State) : (s.countRead).timing = s.timing := rfl

/-! ### `emit` -/

@[simp] theorem State.emit_a (ev : Event) (s : State) : (s.emit ev).a = s.a := rfl
@[simp] theorem State.emit_f (ev : Event) (s : State) : (s.emit ev).f = s.f := rfl
@[simp] theorem State.emit_b (ev : Event) (s : State) : (s.emit ev).b = s.b := rfl
@[simp] theorem State.emit_c (ev : Event) (s : State) : (s.emit ev).c = s.c := rfl
@[simp] theorem State.emit_d (ev : Event) (s : State) : (s.emit ev).d = s.d := rfl
@[simp] theorem State.emit_e (ev : Event) (s : State) : (s.emit ev).e = s.e := rfl
@[simp] theorem State.emit_h (ev : Event) (s : State) : (s.emit ev).h = s.h := rfl
@[simp] theorem State.emit_l (ev : Event) (s : State) : (s.emit ev).l = s.l := rfl
@[simp] theorem State.emit_sp (ev : Event) (s : State) : (s.emit ev).sp = s.sp := rfl
@[simp] theorem State.emit_pc (ev : Event) (s : State) : (s.emit ev).pc = s.pc := rfl
@[simp] theorem State.emit_ime (ev : Event) (s : State) : (s.emit ev).ime = s.ime := rfl
@[simp] theorem State.emit_eiDelay (ev : Event) (s : State) : (s.emit ev).eiDelay = s.eiDelay := rfl
@[simp] theorem State.emit_power (ev : Event) (s : State) : (s.emit ev).power = s.power := rfl
@[simp] theorem State.emit_faultRec (ev : Event) (s : State) : (s.emit ev).faultRec = s.faultRec := rfl
@[simp] theorem State.emit_mem (ev : Event) (s : State) : (s.emit ev).mem = s.mem := rfl
@[simp] theorem State.emit_ifReg (ev : Event) (s : State) : (s.emit ev).ifReg = s.ifReg := rfl
@[simp] theorem State.emit_ie (ev : Event) (s : State) : (s.emit ev).ie = s.ie := rfl
@[simp] theorem State.emit_mode (ev : Event) (s : State) : (s.emit ev).mode = s.mode := rfl
@[simp] theorem State.emit_line (ev : Event) (s : State) : (s.emit ev).line = s.line := rfl
@[simp] theorem State.emit_counter (ev : Event) (s : State) : (s.emit ev).counter = s.counter := rfl
@[simp] theorem State.emit_fb (ev : Event) (s : State) : (s.emit ev).fb = s.fb := rfl
@[simp] theorem State.emit_cycles (ev : Event) (s : State) : (s.emit ev).cycles = s.cycles := rfl
@[simp] theorem State.emit_opcode (ev : Event) (s : State) : (s.emit ev).opcode = s.opcode := rfl
@[simp] theorem State.emit_events (ev : Event) (s : State) : (s.emit ev).events = ev :: s.events := rfl
@[simp] theorem State.emit_reads (ev : Event) (s : State) : (s.emit ev).reads = s.reads := rfl
@[simp] theorem State.emit_inputs (ev : Event) (s : State) : (s.emit ev).inputs = s.inputs := rfl
@[simp] theorem State.emit_timing (ev : Event) (s : State) : (s.emit ev).timing = s.timing := rfl

/-! ### `setMem` -/

@[simp] theorem State.setMem_a (addr : Word) (v : Byte) (s : State) : (s.setMem addr v).a = s.a := rfl
@[simp] theorem State.setMem_f (addr : Word) (v : Byte) (s : State) : (s.setMem addr v).f = s.f := rfl
@[simp] theorem State.setMem_b (addr : Word) (v : Byte) (s : State) : (s.setMem addr v).b = s.b := rfl
@[simp] theorem State.setMem_c (addr : Word) (v : Byte) (s : State) : (s.setMem addr v).c = s.c := rfl
@[simp] theorem State.setMem_d (addr : Word) (v : Byte) (s : State) : (s.setMem addr v).d = s.d := rfl
@[simp] theorem State.setMem_e (addr : Word) (v : Byte) (s : State) : (s.setMem addr v).e = s.e := rfl
@[simp] theorem State.setMem_h (addr : Word) (v : Byte) (s : State) : (s.setMem addr v).h = s.h := rfl
@[simp] theorem State.setMem_l (addr : Word) (v : Byte) (s : State) : (s.setMem addr v).l = s.l := rfl
@[simp] theorem State.setMem_sp (addr : Word) (v : Byte) (s : State) : (s.setMem addr v).sp = s.sp := rfl
@[simp] theorem State.setMem_pc (addr : Word) (v : Byte) (s : State) : (s.setMem addr v).pc = s.pc := rfl
@[simp] theorem State.setMem_ime (addr : Word) (v : Byte) (s : State) : (s.setMem addr v).ime = s.ime := rfl
@[simp] theorem State.setMem_eiDelay (addr : Word) (v : Byte) (s : State) : (s.setMem addr v).eiDelay = s.eiDelay := rfl
@[simp] theorem State.setMem_power (addr : Word) (v : Byte) (s : State) : (s.setMem addr v).power = s.power := rfl
@[simp] theorem State.setMem_faultRec (addr : Word) (v : Byte) (s : State) : (s.setMem addr v).faultRec = s.faultRec := rfl
@[simp] theorem State.setMem_mem (addr : Word) (v : Byte) (s : State) : (s.setMem addr v).mem = s.mem.set addr.toNat v := rfl
@[simp] theorem State.setMem_ifReg (addr : Word) (v : Byte) (s : State) : (s.setMem addr v).ifReg = s.ifReg := rfl
@[simp] theorem State.setMem_ie (addr : Word) (v : Byte) (s : State) : (s.setMem addr v).ie = s.ie := rfl
@[simp] theorem State.setMem_mode (addr : Word) (v : Byte) (s : State) : (s.setMem addr v).mode = s.mode := rfl
@[simp] theorem State.setMem_line (addr : Word) (v : Byte) (s : State) : (s.setMem addr v).line = s.line := rfl
@[simp] theorem State.setMem_counter (addr : Word) (v : Byte) (s : State) : (s.setMem addr v).counter = s.counter := rfl
@[simp] theorem State.setMem_fb (addr : Word) (v : Byte) (s : State) : (s.setMem addr v).fb = s.fb := rfl
@[simp] theorem State.setMem_cycles (addr : Word) (v : Byte) (s : State) : (s.setMem addr v).cycles = s.cycles := rfl
@[simp] theorem State.setMem_opcode (addr : Word) (v : Byte) (s : State) : (s.setMem addr v).opcode = s.opcode := rfl
@[simp] theorem State.setMem_events (addr : Word) (v : Byte) (s : State) : (s.setMem addr v).events = s.events := rfl
@[simp] theorem State.setMem_reads (addr : Word) (v : Byte) (s : State) : (s.setMem addr v).reads = s.reads := rfl
@[simp] theorem State.setMem_inputs (addr : Word) (v : Byte) (s : State) : (s.setMem addr v).inputs = s.inputs := rfl
@[simp] theorem State.setMem_timing (addr : Word) (v : Byte) (s : State) : (s.setMem addr v).timing = s.timing := rfl

/-! ### `setReg` -/

@[simp] theorem State.setReg_f (r : R8) (v : Byte) (s : State) : (s.setReg r v).f = s.f := by cases r <;> rfl
@[simp] theorem State.setReg_sp (r : R8) (v : Byte) (s : State) : (s.setReg r v).sp = s.sp := by cases r <;> rfl
@[simp] theorem State.setReg_pc (r : R8) (v : Byte) (s : State) : (s.setReg r v).pc = s.pc := by cases r <;> rfl
@[simp] theorem State.setReg_ime (r : R8) (v : Byte) (s : State) : (s.setReg r v).ime = s.ime := by cases r <;> rfl
@[simp] theorem State.setReg_eiDelay (r : R8) (v : Byte) (s : State) : (s.setReg r v).eiDelay = s.eiDelay := by cases r <;> rfl
@[simp] theorem State.setReg_power (r : R8) (v : Byte) (s : State) : (s.setReg r v).power = s.power := by cases r <;> rfl
@[simp] theorem State.setReg_faultRec (r : R8) (v : Byte) (s : State) : (s.setReg r v).faultRec = s.faultRec := by cases r <;> rfl
@[simp] theorem State.setReg_mem (r : R8) (v : Byte) (s : State) : (s.setReg r v).mem = s.mem := by cases r <;> rfl
@[simp] theorem State.setReg_ifReg (r : R8) (v : Byte) (s : State) : (s.setReg r v).ifReg = s.ifReg := by cases r <;> rfl
@[simp] theorem State.setReg_ie (r : R8) (v : Byte) (s : State) : (s.setReg r v).ie = s.ie := by cases r <;> rfl
@[simp] theorem State.setReg_mode (r : R8) (v : Byte) (s : State) : (s.setReg r v).mode = s.mode := by cases r <;> rfl
@[simp] theorem State.setReg_line (r : R8) (v : Byte) (s : State) : (s.setReg r v).line = s.line := by cases r <;> rfl
@[simp] theorem State.setReg_counter (r : R8) (v : Byte) (s : State) : (s.setReg r v).counter = s.counter := by cases r <;> rfl
@[simp] theorem State.setReg_fb (r : R8) (v : Byte) (s : State) : (s.setReg r v).fb = s.fb := by cases r <;> rfl
@[simp] theorem State.setReg_cycles (r : R8) (v : Byte) (s : State) : (s.setReg r v).cycles = s.cycles := by cases r <;> rfl
@[simp] theorem State.setReg_opcode (r : R8) (v : Byte) (s : State) : (s.setReg r v).opcode = s.opcode := by cases r <;> rfl
@[simp] theorem State.setReg_events (r : R8) (v : Byte) (s : State) : (s.setReg r v).events = s.events := by cases r <;> rfl
@[simp] theorem State.setReg_reads (r : R8) (v : Byte) (s : State) : (s.setReg r v).reads = s.reads := by cases r <;> rfl
@[simp] theorem State.setReg_inputs (r : R8) (v : Byte) (s : State) : (s.setReg r v).inputs = s.inputs := by cases r <;> rfl
@[simp] theorem State.setReg_timing (r : R8) (v : Byte) (s : State) : (s.setReg r v).timing = s.timing := by cases r <;> rfl

/-! ### `setHl` -/

@[simp] theorem State.setHl_a (v : Word) (s : State) : (s.setHl v).a = s.a := rfl
@[simp] theorem State.setHl_f (v : Word) (s : State) : (s.setHl v).f = s.f := rfl
@[simp] theorem State.setHl_b (v : Word) (s : State) : (s.setHl v).b = s.b := rfl
@[simp] theorem State.setHl_c (v : Word) (s : State) : (s.setHl v).c = s.c := rfl
@[simp] theorem State.setHl_d (v : Word) (s : State) : (s.setHl v).d = s.d := rfl
@[simp] theorem State.setHl_e (v : Word) (s : State) : (s.setHl v).e = s.e := rfl
@[simp] theorem State.setHl_h (v : Word) (s : State) : (s.setHl v).h = hiByte v := rfl
@[simp] theorem State.setHl_l (v : Word) (s : State) : (s.setHl v).l = loByte v := rfl
@[simp] theorem State.setHl_sp (v : Word) (s : State) : (s.setHl v).sp = s.sp := rfl
@[simp] theorem State.setHl_pc (v : Word) (s : State) : (s.setHl v).pc = s.pc := rfl
@[simp] theorem State.setHl_ime (v : Word) (s : State) : (s.setHl v).ime = s.ime := rfl
@[simp] theorem State.setHl_eiDelay (v : Word) (s : State) : (s.setHl v).eiDelay = s.eiDelay := rfl
@[simp] theorem State.setHl_power (v : Word) (s : State) : (s.setHl v).power = s.power := rfl
@[simp] theorem State.setHl_faultRec (v : Word) (s : State) : (s.setHl v).faultRec = s.faultRec := rfl
@[simp] theorem State.setHl_mem (v : Word) (s : State) : (s.setHl v).mem = s.mem := rfl
@[simp] theorem State.setHl_ifReg (v : Word) (s : State) : (s.setHl v).ifReg = s.ifReg := rfl
@[simp] theorem State.setHl_ie (v : Word) (s : State) : (s.setHl v).ie = s.ie := rfl
@[simp] theorem State.setHl_mode (v : Word) (s : State) : (s.setHl v).mode = s.mode := rfl
@[simp] theorem State.setHl_line (v : Word) (s : State) : (s.setHl v).line = s.line := rfl
@[simp] theorem State.setHl_counter (v : Word) (s : State) : (s.setHl v).counter = s.counter := rfl
@[simp] theorem State.setHl_fb (v : Word) (s : State) : (s.setHl v).fb = s.fb := rfl
@[simp] theorem State.setHl_cycles (v : Word) (s : State) : (s.setHl v).cycles = s.cycles := rfl
@[simp] theorem State.setHl_opcode (v : Word) (s : State) : (s.setHl v).opcode = s.opcode := rfl
@[simp] theorem State.setHl_events (v : Word) (s : State) : (s.setHl v).events = s.events := rfl
@[simp] theorem State.setHl_reads (v : Word) (s : State) : (s.setHl v).reads = s.reads := rfl
@[simp] theorem State.setHl_inputs (v : Word) (s : State) : (s.setHl v).inputs = s.inputs := rfl
@[simp] theorem State.setHl_timing (v : Word) (s : State) : (s.setHl v).timing = s.timing := rfl

/-! ### `setPair` -/

@[simp] theorem State.setPair_a (p : R16) (v : Word) (s : State) : (s.setPair p v).a = s.a := by cases p <;> rfl
@[simp] theorem State.setPair_f (p : R16) (v : Word) (s : State) : (s.setPair p v).f = s.f := by cases p <;> rfl
@[simp] theorem State.setPair_pc (p : R16) (v : Word) (s : State) : (s.setPair p v).pc = s.pc := by cases p <;> rfl
@[simp] theorem State.setPair_ime (p : R16) (v : Word) (s : State) : (s.setPair p v).ime = s.ime := by cases p <;> rfl
@[simp] theorem State.setPair_eiDelay (p : R16) (v : Word) (s : State) : (s.setPair p v).eiDelay = s.eiDelay := by cases p <;> rfl
@[simp] theorem State.setPair_power (p : R16) (v : Word) (s : State) : (s.setPair p v).power = s.power := by cases p <;> rfl
@[simp] theorem State.setPair_faultRec (p : R16) (v : Word) (s : State) : (s.setPair p v).faultRec = s.faultRec := by cases p <;> rfl
@[simp] theorem State.setPair_mem (p : R16) (v : Word) (s : State) : (s.setPair p v).mem = s.mem := by cases p <;> rfl
@[simp] theorem State.setPair_ifReg (p : R16) (v : Word) (s : State) : (s.setPair p v).ifReg = s.ifReg := by cases p <;> rfl
@[simp] theorem State.setPair_ie (p : R16) (v : Word) (s : State) : (s.setPair p v).ie = s.ie := by cases p <;> rfl
@[simp] theorem State.setPair_mode (p : R16) (v : Word) (s : State) : (s.setPair p v).mode = s.mode := by cases p <;> rfl
@[simp] theorem State.setPair_line (p : R16) (v : Word) (s : State) : (s.setPair p v).line = s.line := by cases p <;> rfl
@[simp] theorem State.setPair_counter (p : R16) (v : Word) (s : State) : (s.setPair p v).counter = s.counter := by cases p <;> rfl
@[simp] theorem State.setPair_fb (p : R16) (v : Word) (s : State) : (s.setPair p v).fb = s.fb := by cases p <;> rfl
@[simp] theorem State.setPair_cycles (p : R16) (v : Word) (s : State) : (s.setPair p v).cycles = s.cycles := by cases p <;> rfl
@[simp] theorem State.setPair_opcode (p : R16) (v : Word) (s : State) : (s.setPair p v).opcode = s.opcode := by cases p <;> rfl
@[simp] theorem State.setPair_events (p : R16) (v : Word) (s : State) : (s.setPair p v).events = s.events := by cases p <;> rfl
@[simp] theorem State.setPair_reads (p : R16) (v : Word) (s : State) : (s.setPair p v).reads = s.reads := by cases p <;> rfl
@[simp] theorem State.setPair_inputs (p : R16) (v : Word) (s : State) : (s.setPair p v).inputs = s.inputs := by cases p <;> rfl
@[simp] theorem State.setPair_timing (p : R16) (v : Word) (s : State) : (s.setPair p v).timing = s.timing := by cases p <;> rfl

/-! ### `setStkPair` -/

@[simp] theorem State.setStkPair_sp (p : R16Stk) (v : Word) (s : State) : (s.setStkPair p v).sp = s.sp := by cases p <;> rfl
@[simp] theorem State.setStkPair_pc (p : R16Stk) (v : Word) (s : State) : (s.setStkPair p v).pc = s.pc := by cases p <;> rfl
@[simp] theorem State.setStkPair_ime (p : R16Stk) (v : Word) (s : State) : (s.setStkPair p v).ime = s.ime := by cases p <;> rfl
@[simp] theorem State.setStkPair_eiDelay (p : R16Stk) (v : Word) (s : State) : (s.setStkPair p v).eiDelay = s.eiDelay := by cases p <;> rfl
@[simp] theorem State.setStkPair_power (p : R16Stk) (v : Word) (s : State) : (s.setStkPair p v).power = s.power := by cases p <;> rfl
@[simp] theorem State.setStkPair_faultRec (p : R16Stk) (v : Word) (s : State) : (s.setStkPair p v).faultRec = s.faultRec := by cases p <;> rfl
@[simp] theorem State.setStkPair_mem (p : R16Stk) (v : Word) (s : State) : (s.setStkPair p v).mem = s.mem := by cases p <;> rfl
@[simp] theorem State.setStkPair_ifReg (p : R16Stk) (v : Word) (s : State) : (s.setStkPair p v).ifReg = s.ifReg := by cases p <;> rfl
@[simp] theorem State.setStkPair_ie (p : R16Stk) (v : Word) (s : State) : (s.setStkPair p v).ie = s.ie := by cases p <;> rfl
@[simp] theorem State.setStkPair_mode (p : R16Stk) (v : Word) (s : State) : (s.setStkPair p v).mode = s.mode := by cases p <;> rfl
@[simp] theorem State.setStkPair_line (p : R16Stk) (v : Word) (s : State) : (s.setStkPair p v).line = s.line := by cases p <;> rfl
@[simp] theorem State.setStkPair_counter (p : R16Stk) (v : Word) (s : State) : (s.setStkPair p v).counter = s.counter := by cases p <;> rfl
@[simp] theorem State.setStkPair_fb (p : R16Stk) (v : Word) (s : State) : (s.setStkPair p v).fb = s.fb := by cases p <;> rfl
@[simp] theorem State.setStkPair_cycles (p : R16Stk) (v : Word) (s : State) : (s.setStkPair p v).cycles = s.cycles := by cases p <;> rfl
@[simp] theorem State.setStkPair_opcode (p : R16Stk) (v : Word) (s : State) : (s.setStkPair p v).opcode = s.opcode := by cases p <;> rfl
@[simp] theorem State.setStkPair_events (p : R16Stk) (v : Word) (s : State) : (s.setStkPair p v).events = s.events := by cases p <;> rfl
@[simp] theorem State.setStkPair_reads (p : R16Stk) (v : Word) (s : State) : (s.setStkPair p v).reads = s.reads := by cases p <;> rfl
@[simp] theorem State.setStkPair_inputs (p : R16Stk) (v : Word) (s : State) : (s.setStkPair p v).inputs = s.inputs := by cases p <;> rfl
@[simp] theorem State.setStkPair_timing (p : R16Stk) (v : Word) (s : State) : (s.setStkPair p v).timing = s.timing := by cases p <;> rfl

/-! ### `jump` -/

@[simp] theorem State.jump_a (target : Word) (s : State) : (s.jump target).a = s.a := rfl
@[simp] theorem State.jump_f (target : Word) (s : State) : (s.jump target).f = s.f := rfl
@[simp] theorem State.jump_b (target : Word) (s : State) : (s.jump target).b = s.b := rfl
@[simp] theorem State.jump_c (target : Word) (s : State) : (s.jump target).c = s.c := rfl
@[simp] theorem State.jump_d (target : Word) (s : State) : (s.jump target).d = s.d := rfl
@[simp] theorem State.jump_e (target : Word) (s : State) : (s.jump target).e = s.e := rfl
@[simp] theorem State.jump_h (target : Word) (s : State) : (s.jump target).h = s.h := rfl
@[simp] theorem State.jump_l (target : Word) (s : State) : (s.jump target).l = s.l := rfl
@[simp] theorem State.jump_sp (target : Word) (s : State) : (s.jump target).sp = s.sp := rfl
@[simp] theorem State.jump_pc (target : Word) (s : State) : (s.jump target).pc = target := rfl
@[simp] theorem State.jump_ime (target : Word) (s : State) : (s.jump target).ime = s.ime := rfl
@[simp] theorem State.jump_eiDelay (target : Word) (s : State) : (s.jump target).eiDelay = s.eiDelay := rfl
@[simp] theorem State.jump_power (target : Word) (s : State) : (s.jump target).power = s.power := rfl
@[simp] theorem State.jump_faultRec (target : Word) (s : State) : (s.jump target).faultRec = s.faultRec := rfl
@[simp] theorem State.jump_mem (target : Word) (s : State) : (s.jump target).mem = s.mem := rfl
@[simp] theorem State.jump_ifReg (target : Word) (s : State) : (s.jump target).ifReg = s.ifReg := rfl
@[simp] theorem State.jump_ie (target : Word) (s : State) : (s.jump target).ie = s.ie := rfl
@[simp] theorem State.jump_mode (target : Word) (s : State) : (s.jump target).mode = s.mode := rfl
@[simp] theorem State.jump_line (target : Word) (s : State) : (s.jump target).line = s.line := rfl
@[simp] theorem State.jump_counter (target : Word) (s : State) : (s.jump target).counter = s.counter := rfl
@[simp] theorem State.jump_fb (target : Word) (s : State) : (s.jump target).fb = s.fb := rfl
@[simp] theorem State.jump_cycles (target : Word) (s : State) : (s.jump target).cycles = s.cycles := rfl
@[simp] theorem State.jump_opcode (target : Word) (s : State) : (s.jump target).opcode = s.opcode := rfl
@[simp] theorem State.jump_events (target : Word) (s : State) : (s.jump target).events = s.events := rfl
@[simp] theorem State.jump_reads (target : Word) (s : State) : (s.jump target).reads = s.reads := rfl
@[simp] theorem State.jump_inputs (target : Word) (s : State) : (s.jump target).inputs = s.inputs := rfl
@[simp] theorem State.jump_timing (target : Word) (s : State) : (s.jump target).timing = s.timing := rfl

/-! ### `setCycles` -/

@[simp] theorem State.setCycles_a (n : Nat) (s : State) : (s.setCycles n).a = s.a := rfl
@[simp] theorem State.setCycles_f (n : Nat) (s : State) : (s.setCycles n).f = s.f := rfl
@[simp] theorem State.setCycles_b (n : Nat) (s : State) : (s.setCycles n).b = s.b := rfl
@[simp] theorem State.setCycles_c (n : Nat) (s : State) : (s.setCycles n).c = s.c := rfl
@[simp] theorem State.setCycles_d (n : Nat) (s : State) : (s.setCycles n).d = s.d := rfl
@[simp] theorem State.setCycles_e (n : Nat) (s : State) : (s.setCycles n).e = s.e := rfl
@[simp] theorem State.setCycles_h (n : Nat) (s : State) : (s.setCycles n).h = s.h := rfl
@[simp] theorem State.setCycles_l (n : Nat) (s : State) : (s.setCycles n).l = s.l := rfl
@[simp] theorem State.setCycles_sp (n : Nat) (s : State) : (s.setCycles n).sp = s.sp := rfl
@[simp] theorem State.setCycles_pc (n : Nat) (s : State) : (s.setCycles n).pc = s.pc := rfl
@[simp] theorem State.setCycles_ime (n : Nat) (s : State) : (s.setCycles n).ime = s.ime := rfl
@[simp] theorem State.setCycles_eiDelay (n : Nat) (s : State) : (s.setCycles n).eiDelay = s.eiDelay := rfl
@[simp] theorem State.setCycles_power (n : Nat) (s : State) : (s.setCycles n).power = s.power := rfl
@[simp] theorem State.setCycles_faultRec (n : Nat) (s : State) : (s.setCycles n).faultRec = s.faultRec := rfl
@[simp] theorem State.setCycles_mem (n : Nat) (s : State) : (s.setCycles n).mem = s.mem := rfl
@[simp] theorem State.setCycles_ifReg (n : Nat) (s : State) : (s.setCycles n).ifReg = s.ifReg := rfl
@[simp] theorem State.setCycles_ie (n : Nat) (s : State) : (s.setCycles n).ie = s.ie := rfl
@[simp] theorem State.setCycles_mode (n : Nat) (s : State) : (s.setCycles n).mode = s.mode := rfl
@[simp] theorem State.setCycles_line (n : Nat) (s : State) : (s.setCycles n).line = s.line := rfl
@[simp] theorem State.setCycles_counter (n : Nat) (s : State) : (s.setCycles n).counter = s.counter := rfl
@[simp] theorem State.setCycles_fb (n : Nat) (s : State) : (s.setCycles n).fb = s.fb := rfl
@[simp] theorem State.setCycles_cycles (n : Nat) (s : State) : (s.setCycles n).cycles = n := rfl
@[simp] theorem State.setCycles_opcode (n : Nat) (s : State) : (s.setCycles n).opcode = s.opcode := rfl
@[simp] theorem State.setCycles_events (n : Nat) (s : State) : (s.setCycles n).events = s.events := rfl
@[simp] theorem State.setCycles_reads (n : Nat) (s : State) : (s.setCycles n).reads = s.reads := rfl
@[simp] theorem State.setCycles_inputs (n : Nat) (s : State) : (s.setCycles n).inputs = s.inputs := rfl
@[simp] theorem State.setCycles_timing (n : Nat) (s : State) : (s.setCycles n).timing = s.timing := rfl

/-! ### `memWrite` -/

@[simp] theorem State.memWrite_a (addr : Word) (v : Byte) (s : State) : (s.memWrite addr v).a = s.a := by unfold State.memWrite; split <;> rfl
@[simp] theorem State.memWrite_f (addr : Word) (v : Byte) (s : State) : (s.memWrite addr v).f = s.f := by unfold State.memWrite; split <;> rfl
@[simp] theorem State.memWrite_b (addr : Word) (v : Byte) (s : State) : (s.memWrite addr v).b = s.b := by unfold State.memWrite; split <;> rfl
@[simp] theorem State.memWrite_c (addr : Word) (v : Byte) (s : State) : (s.memWrite addr v).c = s.c := by unfold State.memWrite; split <;> rfl
@[simp] theorem State.memWrite_d (addr : Word) (v : Byte) (s : State) : (s.memWrite addr v).d = s.d := by unfold State.memWrite; split <;> rfl
@[simp] theorem State.memWrite_e (addr : Word) (v : Byte) (s : State) : (s.memWrite addr v).e = s.e := by unfold State.memWrite; split <;> rfl
@[simp] theorem State.memWrite_h (addr : Word) (v : Byte) (s : State) : (s.memWrite addr v).h = s.h := by unfold State.memWrite; split <;> rfl
@[simp] theorem State.memWrite_l (addr : Word) (v : Byte) (s : State) : (s.memWrite addr v).l = s.l := by unfold State.memWrite; split <;> rfl
@[simp] theorem State.memWrite_sp (addr : Word) (v : Byte) (s : State) : (s.memWrite addr v).sp = s.sp := by unfold State.memWrite; split <;> rfl
@[simp] theorem State.memWrite_pc (addr : Word) (v : Byte) (s : State) : (s.memWrite addr v).pc = s.pc := by unfold State.memWrite; split <;> rfl
@[simp] theorem State.memWrite_ime (addr : Word) (v : Byte) (s : State) : (s.memWrite addr v).ime = s.ime := by unfold State.memWrite; split <;> rfl
@[simp] theorem State.memWrite_eiDelay (addr : Word) (v : Byte) (s : State) : (s.memWrite addr v).eiDelay = s.eiDelay := by unfold State.memWrite; split <;> rfl
@[simp] theorem State.memWrite_power (addr : Word) (v : Byte) (s : State) : (s.memWrite addr v).power = s.power := by unfold State.memWrite; split <;> rfl
@[simp] theorem State.memWrite_faultRec (addr : Word) (v : Byte) (s : State) : (s.memWrite addr v).faultRec = s.faultRec := by unfold State.memWrite; split <;> rfl
@[simp] theorem State.memWrite_mode (addr : Word) (v : Byte) (s : State) : (s.memWrite addr v).mode = s.mode := by unfold State.memWrite; split <;> rfl
@[simp] theorem State.memWrite_line (addr : Word) (v : Byte) (s : State) : (s.memWrite addr v).line = s.line := by unfold State.memWrite; split <;> rfl
@[simp] theorem State.memWrite_counter (addr : Word) (v : Byte) (s : State) : (s.memWrite addr v).counter = s.counter := by unfold State.memWrite; split <;> rfl
@[simp] theorem State.memWrite_fb (addr : Word) (v : Byte) (s : State) : (s.memWrite addr v).fb = s.fb := by unfold State.memWrite; split <;> rfl
@[simp] theorem State.memWrite_cycles (addr : Word) (v : Byte) (s : State) : (s.memWrite addr v).cycles = s.cycles := by unfold State.memWrite; split <;> rfl
@[simp] theorem State.memWrite_opcode (addr : Word) (v : Byte) (s : State) : (s.memWrite addr v).opcode = s.opcode := by unfold State.memWrite; split <;> rfl
@[simp] theorem State.memWrite_reads (addr : Word) (v : Byte) (s : State) : (s.memWrite addr v).reads = s.reads := by unfold State.memWrite; split <;> rfl
@[simp] theorem State.memWrite_inputs (addr : Word) (v : Byte) (s : State) : (s.memWrite addr v).inputs = s.inputs := by unfold State.memWrite; split <;> rfl
@[simp] theorem State.memWrite_timing (addr : Word) (v : Byte) (s : State) : (s.memWrite addr v).timing = s.timing := by unfold State.memWrite; split <;> rfl

/-! ### `memWrite16` -/

@[simp] theorem State.memWrite16_a (addr v : Word) (s : State) : (s.memWrite16 addr v).a = s.a := by simp [State.memWrite16]
@[simp] theorem State.memWrite16_f (addr v : Word) (s : State) : (s.memWrite16 addr v).f = s.f := by simp [State.memWrite16]
@[simp] theorem State.memWrite16_b (addr v : Word) (s : State) : (s.memWrite16 addr v).b = s.b := by simp [State.memWrite16]
@[simp] theorem State.memWrite16_c (addr v : Word) (s : State) : (s.memWrite16 addr v).c = s.c := by simp [State.memWrite16]
@[simp] theorem State.memWrite16_d (addr v : Word) (s : State) : (s.memWrite16 addr v).d = s.d := by simp [State.memWrite16]
@[simp] theorem State.memWrite16_e (addr v : Word) (s : State) : (s.memWrite16 addr v).e = s.e := by simp [State.memWrite16]
@[simp] theorem State.memWrite16_h (addr v : Word) (s : State) : (s.memWrite16 addr v).h = s.h := by simp [State.memWrite16]
@[simp] theorem State.memWrite16_l (addr v : Word) (s : State) : (s.memWrite16 addr v).l = s.l := by simp [State.memWrite16]
@[simp] theorem State.memWrite16_sp (addr v : Word) (s : State) : (s.memWrite16 addr v).sp = s.sp := by simp [State.memWrite16]
@[simp] theorem State.memWrite16_pc (addr v : Word) (s : State) : (s.memWrite16 addr v).pc = s.pc := by simp [State.memWrite16]
@[simp] theorem State.memWrite16_ime (addr v : Word) (s : State) : (s.memWrite16 addr v).ime = s.ime := by simp [State.memWrite16]
@[simp] theorem State.memWrite16_eiDelay (addr v : Word) (s : State) : (s.memWrite16 addr v).eiDelay = s.eiDelay := by simp [State.memWrite16]
@[simp] theorem State.memWrite16_power (addr v : Word) (s : State) : (s.memWrite16 addr v).power = s.power := by simp [State.memWrite16]
@[simp] theorem State.memWrite16_faultRec (addr v : Word) (s : State) : (s.memWrite16 addr v).faultRec = s.faultRec := by simp [State.memWrite16]
@[simp] theorem State.memWrite16_mode (addr v : Word) (s : State) : (s.memWrite16 addr v).mode = s.mode := by simp [State.memWrite16]
@[simp] theorem State.memWrite16_line (addr v : Word) (s : State) : (s.memWrite16 addr v).line = s.line := by simp [State.memWrite16]
@[simp] theorem State.memWrite16_counter (addr v : Word) (s : State) : (s.memWrite16 addr v).counter = s.counter := by simp [State.memWrite16]
@[simp] theorem State.memWrite16_fb (addr v : Word) (s : State) : (s.memWrite16 addr v).fb = s.fb := by simp [State.memWrite16]
@[simp] theorem State.memWrite16_cycles (addr v : Word) (s : State) : (s.memWrite16 addr v).cycles = s.cycles := by simp [State.memWrite16]
@[simp] theorem State.memWrite16_opcode (addr v : Word) (s : State) : (s.memWrite16 addr v).opcode = s.opcode := by simp [State.memWrite16]
@[simp] theorem State.memWrite16_reads (addr v : Word) (s : State) : (s.memWrite16 addr v).reads = s.reads := by simp [State.memWrite16]
@[simp] theorem State.memWrite16_inputs (addr v : Word) (s : State) : (s.memWrite16 addr v).inputs = s.inputs := by simp [State.memWrite16]
@[simp] theorem State.memWrite16_timing (addr v : Word) (s : State) : (s.memWrite16 addr v).timing = s.timing := by simp [State.memWrite16]

/-! ### `push16` -/

@[simp] theorem State.push16_a (v : Word) (s : State) : (s.push16 v).a = s.a := by simp [State.push16]
@[simp] theorem State.push16_f (v : Word) (s : State) : (s.push16 v).f = s.f := by simp [State.push16]
@[simp] theorem State.push16_b (v : Word) (s : State) : (s.push16 v).b = s.b := by simp [State.push16]
@[simp] theorem State.push16_c (v : Word) (s : State) : (s.push16 v).c = s.c := by simp [State.push16]
@[simp] theorem State.push16_d (v : Word) (s : State) : (s.push16 v).d = s.d := by simp [State.push16]
@[simp] theorem State.push16_e (v : Word) (s : State) : (s.push16 v).e = s.e := by simp [State.push16]
@[simp] theorem State.push16_h (v : Word) (s : State) : (s.push16 v).h = s.h := by simp [State.push16]
@[simp] theorem State.push16_l (v : Word) (s : State) : (s.push16 v).l = s.l := by simp [State.push16]
@[simp] theorem State.push16_sp (v : Word) (s : State) : (s.push16 v).sp = s.sp - 2 := by simp [State.push16]
@[simp] theorem State.push16_pc (v : Word) (s : State) : (s.push16 v).pc = s.pc := by simp [State.push16]
@[simp] theorem State.push16_ime (v : Word) (s : State) : (s.push16 v).ime = s.ime := by simp [State.push16]
@[simp] theorem State.push16_eiDelay (v : Word) (s : State) : (s.push16 v).eiDelay = s.eiDelay := by simp [State.push16]
@[simp] theorem State.push16_power (v : Word) (s : State) : (s.push16 v).power = s.power := by simp [State.push16]
@[simp] theorem State.push16_faultRec (v : Word) (s : State) : (s.push16 v).faultRec = s.faultRec := by simp [State.push16]
@[simp] theorem State.push16_mode (v : Word) (s : State) : (s.push16 v).mode = s.mode := by simp [State.push16]
@[simp] theorem State.push16_line (v : Word) (s : State) : (s.push16 v).line = s.line := by simp [State.push16]
@[simp] theorem State.push16_counter (v : Word) (s : State) : (s.push16 v).counter = s.counter := by simp [State.push16]
@[simp] theorem State.push16_fb (v : Word) (s : State) : (s.push16 v).fb = s.fb := by simp [State.push16]
@[simp] theorem State.push16_cycles (v : Word) (s : State) : (s.push16 v).cycles = s.cycles := by simp [State.push16]
@[simp] theorem State.push16_opcode (v : Word) (s : State) : (s.push16 v).opcode = s.opcode := by simp [State.push16]
@[simp] theorem State.push16_reads (v : Word) (s : State) : (s.push16 v).reads = s.reads := by simp [State.push16]
@[simp] theorem State.push16_inputs (v : Word) (s : State) : (s.push16 v).inputs = s.inputs := by simp [State.push16]
@[simp] theorem State.push16_timing (v : Word) (s : State) : (s.push16 v).timing = s.timing := by simp [State.push16]

/-! ### `afterPop` -/

@[simp] theorem State.afterPop_a (s : State) : (s.afterPop).a = s.a := rfl
@[simp] theorem State.afterPop_f (s : State) : (s.afterPop).f = s.f := rfl
@[simp] theorem State.afterPop_b (s : State) : (s.afterPop).b = s.b := rfl
@[simp] theorem State.afterPop_c (s : State) : (s.afterPop).c = s.c := rfl
@[simp] theorem State.afterPop_d (s : State) : (s.afterPop).d = s.d := rfl
@[simp] theorem State.afterPop_e (s : State) : (s.afterPop).e = s.e := rfl
@[simp] theorem State.afterPop_h (s : State) : (s.afterPop).h = s.h := rfl
@[simp] theorem State.afterPop_l (s : State) : (s.afterPop).l = s.l := rfl
@[simp] theorem State.afterPop_sp (s : State) : (s.afterPop).sp = s.sp + 2 := rfl
@[simp] theorem State.afterPop_pc (s : State) : (s.afterPop).pc = s.pc := rfl
@[simp] theorem State.afterPop_ime (s : State) : (s.afterPop).ime = s.ime := rfl
@[simp] theorem State.afterPop_eiDelay (s : State) : (s.afterPop).eiDelay = s.eiDelay := rfl
@[simp] theorem State.afterPop_power (s : State) : (s.afterPop).power = s.power := rfl
@[simp] theorem State.afterPop_faultRec (s : State) : (s.afterPop).faultRec = s.faultRec := rfl
@[simp] theorem State.afterPop_mem (s : State) : (s.afterPop).mem = s.mem := rfl
@[simp] theorem State.afterPop_ifReg (s : State) : (s.afterPop).ifReg = s.ifReg := rfl
@[simp] theorem State.afterPop_ie (s : State) : (s.afterPop).ie = s.ie := rfl
@[simp] theorem State.afterPop_mode (s : State) : (s.afterPop).mode = s.mode := rfl
@[simp] theorem State.afterPop_line (s : State) : (s.afterPop).line = s.line := rfl
@[simp] theorem State.afterPop_counter (s : State) : (s.afterPop).counter = s.counter := rfl
@[simp] theorem State.afterPop_fb (s : State) : (s.afterPop).fb = s.fb := rfl
@[simp] theorem State.afterPop_cycles (s : State) : (s.afterPop).cycles = s.cycles := rfl
@[simp] theorem State.afterPop_opcode (s : State) : (s.afterPop).opcode = s.opcode := rfl
@[simp] theorem State.afterPop_events (s : State) : (s.afterPop).events = s.events := rfl
@[simp] theorem State.afterPop_reads (s : State) : (s.afterPop).reads = s.reads + 2 := rfl
@[simp] theorem State.afterPop_inputs (s : State) : (s.afterPop).inputs = s.inputs := rfl
@[simp] theorem State.afterPop_timing (s : State) : (s.afterPop).timing = s.timing := rfl

/-! ### `takeInterrupt` -/

@[simp] theorem State.takeInterrupt_a (i : IntSource) (s : State) : (s.takeInterrupt i).a = s.a := by simp [State.takeInterrupt]
@[simp] theorem State.takeInterrupt_f (i : IntSource) (s : State) : (s.takeInterrupt i).f = s.f := by simp [State.takeInterrupt]
@[simp] theorem State.takeInterrupt_b (i : IntSource) (s : State) : (s.takeInterrupt i).b = s.b := by simp [State.takeInterrupt]
@[simp] theorem State.takeInterrupt_c (i : IntSource) (s : State) : (s.takeInterrupt i).c = s.c := by simp [State.takeInterrupt]
@[simp] theorem State.takeInterrupt_d (i : IntSource) (s : State) : (s.takeInterrupt i).d = s.d := by simp [State.takeInterrupt]
@[simp] theorem State.takeInterrupt_e (i : IntSource) (s : State) : (s.takeInterrupt i).e = s.e := by simp [State.takeInterrupt]
@[simp] theorem State.takeInterrupt_h (i : IntSource) (s : State) : (s.takeInterrupt i).h = s.h := by simp [State.takeInterrupt]
@[simp] theorem State.takeInterrupt_l (i : IntSource) (s : State) : (s.takeInterrupt i).l = s.l := by simp [State.takeInterrupt]
@[simp] theorem State.takeInterrupt_sp (i : IntSource) (s : State) : (s.takeInterrupt i).sp = s.sp - 2 := by simp [State.takeInterrupt]
@[simp] theorem State.takeInterrupt_pc (i : IntSource) (s : State) : (s.takeInterrupt i).pc = i.vector := by simp [State.takeInterrupt]
@[simp] theorem State.takeInterrupt_ime (i : IntSource) (s : State) : (s.takeInterrupt i).ime = false := by simp [State.takeInterrupt]
@[simp] theorem State.takeInterrupt_eiDelay (i : IntSource) (s : State) : (s.takeInterrupt i).eiDelay = 0 := by simp [State.takeInterrupt]
@[simp] theorem State.takeInterrupt_power (i : IntSource) (s : State) : (s.takeInterrupt i).power = s.power := by simp [State.takeInterrupt]
@[simp] theorem State.takeInterrupt_faultRec (i : IntSource) (s : State) : (s.takeInterrupt i).faultRec = s.faultRec := by simp [State.takeInterrupt]
@[simp] theorem State.takeInterrupt_mode (i : IntSource) (s : State) : (s.takeInterrupt i).mode = s.mode := by simp [State.takeInterrupt]
@[simp] theorem State.takeInterrupt_line (i : IntSource) (s : State) : (s.takeInterrupt i).line = s.line := by simp [State.takeInterrupt]
@[simp] theorem State.takeInterrupt_counter (i : IntSource) (s : State) : (s.takeInterrupt i).counter = s.counter := by simp [State.takeInterrupt]
@[simp] theorem State.takeInterrupt_fb (i : IntSource) (s : State) : (s.takeInterrupt i).fb = s.fb := by simp [State.takeInterrupt]
@[simp] theorem State.takeInterrupt_cycles (i : IntSource) (s : State) : (s.takeInterrupt i).cycles = s.cycles := by simp [State.takeInterrupt]
@[simp] theorem State.takeInterrupt_opcode (i : IntSource) (s : State) : (s.takeInterrupt i).opcode = s.opcode := by simp [State.takeInterrupt]
@[simp] theorem State.takeInterrupt_reads (i : IntSource) (s : State) : (s.takeInterrupt i).reads = s.reads := by simp [State.takeInterrupt]
@[simp] theorem State.takeInterrupt_inputs (i : IntSource) (s : State) : (s.takeInterrupt i).inputs = s.inputs := by simp [State.takeInterrupt]
@[simp] theorem State.takeInterrupt_timing (i : IntSource) (s : State) : (s.takeInterrupt i).timing = s.timing := by simp [State.takeInterrupt]

/-! ### `returnFromInterrupt` -/

@[simp] theorem State.returnFromInterrupt_a (s : State) : (s.returnFromInterrupt).a = s.a := rfl
@[simp] theorem State.returnFromInterrupt_f (s : State) : (s.returnFromInterrupt).f = s.f := rfl
@[simp] theorem State.returnFromInterrupt_b (s : State) : (s.returnFromInterrupt).b = s.b := rfl
@[simp] theorem State.returnFromInterrupt_c (s : State) : (s.returnFromInterrupt).c = s.c := rfl
@[simp] theorem State.returnFromInterrupt_d (s : State) : (s.returnFromInterrupt).d = s.d := rfl
@[simp] theorem State.returnFromInterrupt_e (s : State) : (s.returnFromInterrupt).e = s.e := rfl
@[simp] theorem State.returnFromInterrupt_h (s : State) : (s.returnFromInterrupt).h = s.h := rfl
@[simp] theorem State.returnFromInterrupt_l (s : State) : (s.returnFromInterrupt).l = s.l := rfl
@[simp] theorem State.returnFromInterrupt_sp (s : State) : (s.returnFromInterrupt).sp = s.sp + 2 := rfl
@[simp] theorem State.returnFromInterrupt_pc (s : State) : (s.returnFromInterrupt).pc = s.popValue := rfl
@[simp] theorem State.returnFromInterrupt_ime (s : State) : (s.returnFromInterrupt).ime = true := rfl
@[simp] theorem State.returnFromInterrupt_eiDelay (s : State) : (s.returnFromInterrupt).eiDelay = s.eiDelay := rfl
@[simp] theorem State.returnFromInterrupt_power (s : State) : (s.returnFromInterrupt).power = s.power := rfl
@[simp] theorem State.returnFromInterrupt_faultRec (s : State) : (s.returnFromInterrupt).faultRec = s.faultRec := rfl
@[simp] theorem State.returnFromInterrupt_mem (s : State) : (s.returnFromInterrupt).mem = s.mem := rfl
@[simp] theorem State.returnFromInterrupt_ifReg (s : State) : (s.returnFromInterrupt).ifReg = s.ifReg := rfl
@[simp] theorem State.returnFromInterrupt_ie (s : State) : (s.returnFromInterrupt).ie = s.ie := rfl
@[simp] theorem State.returnFromInterrupt_mode (s : State) : (s.returnFromInterrupt).mode = s.mode := rfl
@[simp] theorem State.returnFromInterrupt_line (s : State) : (s.returnFromInterrupt).line = s.line := rfl
@[simp] theorem State.returnFromInterrupt_counter (s : State) : (s.returnFromInterrupt).counter = s.counter := rfl
@[simp] theorem State.returnFromInterrupt_fb (s : State) : (s.returnFromInterrupt).fb = s.fb := rfl
@[simp] theorem State.returnFromInterrupt_cycles (s : State) : (s.returnFromInterrupt).cycles = s.cycles := rfl
@[simp] theorem State.returnFromInterrupt_opcode (s : State) : (s.returnFromInterrupt).opcode = s.opcode := rfl
@[simp] theorem State.returnFromInterrupt_events (s : State) : (s.returnFromInterrupt).events = s.events := rfl
@[simp] theorem State.returnFromInterrupt_reads (s : State) : (s.returnFromInterrupt).reads = s.reads + 2 := rfl
@[simp] theorem State.returnFromInterrupt_inputs (s : State) : (s.returnFromInterrupt).inputs = s.inputs := rfl
@[simp] theorem State.returnFromInterrupt_timing (s : State) : (s.returnFromInterrupt).timing = s.timing := rfl

/-! ### `afterOperand` -/

@[simp] theorem State.afterOperand_a (o : Operand8) (s : State) : (s.afterOperand o).a = s.a := by cases o <;> rfl
@[simp] theorem State.afterOperand_f (o : Operand8) (s : State) : (s.afterOperand o).f = s.f := by cases o <;> rfl
@[simp] theorem State.afterOperand_b (o : Operand8) (s : State) : (s.afterOperand o).b = s.b := by cases o <;> rfl
@[simp] theorem State.afterOperand_c (o : Operand8) (s : State) : (s.afterOperand o).c = s.c := by cases o <;> rfl
@[simp] theorem State.afterOperand_d (o : Operand8) (s : State) : (s.afterOperand o).d = s.d := by cases o <;> rfl
@[simp] theorem State.afterOperand_e (o : Operand8) (s : State) : (s.afterOperand o).e = s.e := by cases o <;> rfl
@[simp] theorem State.afterOperand_h (o : Operand8) (s : State) : (s.afterOperand o).h = s.h := by cases o <;> rfl
@[simp] theorem State.afterOperand_l (o : Operand8) (s : State) : (s.afterOperand o).l = s.l := by cases o <;> rfl
@[simp] theorem State.afterOperand_sp (o : Operand8) (s : State) : (s.afterOperand o).sp = s.sp := by cases o <;> rfl
@[simp] theorem State.afterOperand_pc (o : Operand8) (s : State) : (s.afterOperand o).pc = s.pc := by cases o <;> rfl
@[simp] theorem State.afterOperand_ime (o : Operand8) (s : State) : (s.afterOperand o).ime = s.ime := by cases o <;> rfl
@[simp] theorem State.afterOperand_eiDelay (o : Operand8) (s : State) : (s.afterOperand o).eiDelay = s.eiDelay := by cases o <;> rfl
@[simp] theorem State.afterOperand_power (o : Operand8) (s : State) : (s.afterOperand o).power = s.power := by cases o <;> rfl
@[simp] theorem State.afterOperand_faultRec (o : Operand8) (s : State) : (s.afterOperand o).faultRec = s.faultRec := by cases o <;> rfl
@[simp] theorem State.afterOperand_mem (o : Operand8) (s : State) : (s.afterOperand o).mem = s.mem := by cases o <;> rfl
@[simp] theorem State.afterOperand_ifReg (o : Operand8) (s : State) : (s.afterOperand o).ifReg = s.ifReg := by cases o <;> rfl
@[simp] theorem State.afterOperand_ie (o : Operand8) (s : State) : (s.afterOperand o).ie = s.ie := by cases o <;> rfl
@[simp] theorem State.afterOperand_mode (o : Operand8) (s : State) : (s.afterOperand o).mode = s.mode := by cases o <;> rfl
@[simp] theorem State.afterOperand_line (o : Operand8) (s : State) : (s.afterOperand o).line = s.line := by cases o <;> rfl
@[simp] theorem State.afterOperand_counter (o : Operand8) (s : State) : (s.afterOperand o).counter = s.counter := by cases o <;> rfl
@[simp] theorem State.afterOperand_fb (o : Operand8) (s : State) : (s.afterOperand o).fb = s.fb := by cases o <;> rfl
@[simp] theorem State.afterOperand_cycles (o : Operand8) (s : State) : (s.afterOperand o).cycles = s.cycles := by cases o <;> rfl
@[simp] theorem State.afterOperand_opcode (o : Operand8) (s : State) : (s.afterOperand o).opcode = s.opcode := by cases o <;> rfl
@[simp] theorem State.afterOperand_events (o : Operand8) (s : State) : (s.afterOperand o).events = s.events := by cases o <;> rfl
@[simp] theorem State.afterOperand_inputs (o : Operand8) (s : State) : (s.afterOperand o).inputs = s.inputs := by cases o <;> rfl
@[simp] theorem State.afterOperand_timing (o : Operand8) (s : State) : (s.afterOperand o).timing = s.timing := by cases o <;> rfl

/-! ### `setOperand` -/

@[simp] theorem State.setOperand_f (o : Operand8) (v : Byte) (s : State) : (s.setOperand o v).f = s.f := by cases o <;> simp [State.setOperand]
@[simp] theorem State.setOperand_sp (o : Operand8) (v : Byte) (s : State) : (s.setOperand o v).sp = s.sp := by cases o <;> simp [State.setOperand]
@[simp] theorem State.setOperand_pc (o : Operand8) (v : Byte) (s : State) : (s.setOperand o v).pc = s.pc := by cases o <;> simp [State.setOperand]
@[simp] theorem State.setOperand_ime (o : Operand8) (v : Byte) (s : State) : (s.setOperand o v).ime = s.ime := by cases o <;> simp [State.setOperand]
@[simp] theorem State.setOperand_eiDelay (o : Operand8) (v : Byte) (s : State) : (s.setOperand o v).eiDelay = s.eiDelay := by cases o <;> simp [State.setOperand]
@[simp] theorem State.setOperand_power (o : Operand8) (v : Byte) (s : State) : (s.setOperand o v).power = s.power := by cases o <;> simp [State.setOperand]
@[simp] theorem State.setOperand_faultRec (o : Operand8) (v : Byte) (s : State) : (s.setOperand o v).faultRec = s.faultRec := by cases o <;> simp [State.setOperand]
@[simp] theorem State.setOperand_mode (o : Operand8) (v : Byte) (s : State) : (s.setOperand o v).mode = s.mode := by cases o <;> simp [State.setOperand]
@[simp] theorem State.setOperand_line (o : Operand8) (v : Byte) (s : State) : (s.setOperand o v).line = s.line := by cases o <;> simp [State.setOperand]
@[simp] theorem State.setOperand_counter (o : Operand8) (v : Byte) (s : State) : (s.setOperand o v).counter = s.counter := by cases o <;> simp [State.setOperand]
@[simp] theorem State.setOperand_fb (o : Operand8) (v : Byte) (s : State) : (s.setOperand o v).fb = s.fb := by cases o <;> simp [State.setOperand]
@[simp] theorem State.setOperand_cycles (o : Operand8) (v : Byte) (s : State) : (s.setOperand o v).cycles = s.cycles := by cases o <;> simp [State.setOperand]
@[simp] theorem State.setOperand_opcode (o : Operand8) (v : Byte) (s : State) : (s.setOperand o v).opcode = s.opcode := by cases o <;> simp [State.setOperand]
@[simp] theorem State.setOperand_reads (o : Operand8) (v : Byte) (s : State) : (s.setOperand o v).reads = s.reads := by cases o <;> simp [State.setOperand]
@[simp] theorem State.setOperand_inputs (o : Operand8) (v : Byte) (s : State) : (s.setOperand o v).inputs = s.inputs := by cases o <;> simp [State.setOperand]
@[simp] theorem State.setOperand_timing (o : Operand8) (v : Byte) (s : State) : (s.setOperand o v).timing = s.timing := by cases o <;> simp [State.setOperand]

/-! ### `afterAluSrc` -/

@[simp] theorem State.afterAluSrc_a (src : AluSrc) (s : State) : (s.afterAluSrc src).a = s.a := by cases src <;> simp [State.afterAluSrc]
@[simp] theorem State.afterAluSrc_f (src : AluSrc) (s : State) : (s.afterAluSrc src).f = s.f := by cases src <;> simp [State.afterAluSrc]
@[simp] theorem State.afterAluSrc_b (src : AluSrc) (s : State) : (s.afterAluSrc src).b = s.b := by cases src <;> simp [State.afterAluSrc]
@[simp] theorem State.afterAluSrc_c (src : AluSrc) (s : State) : (s.afterAluSrc src).c = s.c := by cases src <;> simp [State.afterAluSrc]
@[simp] theorem State.afterAluSrc_d (src : AluSrc) (s : State) : (s.afterAluSrc src).d = s.d := by cases src <;> simp [State.afterAluSrc]
@[simp] theorem State.afterAluSrc_e (src : AluSrc) (s : State) : (s.afterAluSrc src).e = s.e := by cases src <;> simp [State.afterAluSrc]
@[simp] theorem State.afterAluSrc_h (src : AluSrc) (s : State) : (s.afterAluSrc src).h = s.h := by cases src <;> simp [State.afterAluSrc]
@[simp] theorem State.afterAluSrc_l (src : AluSrc) (s : State) : (s.afterAluSrc src).l = s.l := by cases src <;> simp [State.afterAluSrc]
@[simp] theorem State.afterAluSrc_sp (src : AluSrc) (s : State) : (s.afterAluSrc src).sp = s.sp := by cases src <;> simp [State.afterAluSrc]
@[simp] theorem State.afterAluSrc_pc (src : AluSrc) (s : State) : (s.afterAluSrc src).pc = s.pc := by cases src <;> simp [State.afterAluSrc]
@[simp] theorem State.afterAluSrc_ime (src : AluSrc) (s : State) : (s.afterAluSrc src).ime = s.ime := by cases src <;> simp [State.afterAluSrc]
@[simp] theorem State.afterAluSrc_eiDelay (src : AluSrc) (s : State) : (s.afterAluSrc src).eiDelay = s.eiDelay := by cases src <;> simp [State.afterAluSrc]
@[simp] theorem State.afterAluSrc_power (src : AluSrc) (s : State) : (s.afterAluSrc src).power = s.power := by cases src <;> simp [State.afterAluSrc]
@[simp] theorem State.afterAluSrc_faultRec (src : AluSrc) (s : State) : (s.afterAluSrc src).faultRec = s.faultRec := by cases src <;> simp [State.afterAluSrc]
@[simp] theorem State.afterAluSrc_mem (src : AluSrc) (s : State) : (s.afterAluSrc src).mem = s.mem := by cases src <;> simp [State.afterAluSrc]
@[simp] theorem State.afterAluSrc_ifReg (src : AluSrc) (s : State) : (s.afterAluSrc src).ifReg = s.ifReg := by cases src <;> simp [State.afterAluSrc]
@[simp] theorem State.afterAluSrc_ie (src : AluSrc) (s : State) : (s.afterAluSrc src).ie = s.ie := by cases src <;> simp [State.afterAluSrc]
@[simp] theorem State.afterAluSrc_mode (src : AluSrc) (s : State) : (s.afterAluSrc src).mode = s.mode := by cases src <;> simp [State.afterAluSrc]
@[simp] theorem State.afterAluSrc_line (src : AluSrc) (s : State) : (s.afterAluSrc src).line = s.line := by cases src <;> simp [State.afterAluSrc]
@[simp] theorem State.afterAluSrc_counter (src : AluSrc) (s : State) : (s.afterAluSrc src).counter = s.counter := by cases src <;> simp [State.afterAluSrc]
@[simp] theorem State.afterAluSrc_fb (src : AluSrc) (s : State) : (s.afterAluSrc src).fb = s.fb := by cases src <;> simp [State.afterAluSrc]
@[simp] theorem State.afterAluSrc_cycles (src : AluSrc) (s : State) : (s.afterAluSrc src).cycles = s.cycles := by cases src <;> simp [State.afterAluSrc]
@[simp] theorem State.afterAluSrc_opcode (src : AluSrc) (s : State) : (s.afterAluSrc src).opcode = s.opcode := by cases src <;> simp [State.afterAluSrc]
@[simp] theorem State.afterAluSrc_events (src : AluSrc) (s : State) : (s.afterAluSrc src).events = s.events := by cases src <;> simp [State.afterAluSrc]
@[simp] theorem State.afterAluSrc_inputs (src : AluSrc) (s : State) : (s.afterAluSrc src).inputs = s.inputs := by cases src <;> simp [State.afterAluSrc]
@[simp] theorem State.afterAluSrc_timing (src : AluSrc) (s : State) : (s.afterAluSrc src).timing = s.timing := by cases src <;> simp [State.afterAluSrc]

/-! ### `afterFetch` -/

@[simp] theorem State.afterFetch_a (s : State) : (s.afterFetch).a = s.a := rfl
@[simp] theorem State.afterFetch_f (s : State) : (s.afterFetch).f = s.f := rfl
@[simp] theorem State.afterFetch_b (s : State) : (s.afterFetch).b = s.b := rfl
@[simp] theorem State.afterFetch_c (s : State) : (s.afterFetch).c = s.c := rfl
@[simp] theorem State.afterFetch_d (s : State) : (s.afterFetch).d = s.d := rfl
@[simp] theorem State.afterFetch_e (s : State) : (s.afterFetch).e = s.e := rfl
@[simp] theorem State.afterFetch_h (s : State) : (s.afterFetch).h = s.h := rfl
@[simp] theorem State.afterFetch_l (s : State) : (s.afterFetch).l = s.l := rfl
@[simp] theorem State.afterFetch_sp (s : State) : (s.afterFetch).sp = s.sp := rfl
@[simp] theorem State.afterFetch_pc (s : State) : (s.afterFetch).pc = s.pc + BitVec.ofNat 16 s.fetchLength := rfl
@[simp] theorem State.afterFetch_ime (s : State) : (s.afterFetch).ime = s.ime := rfl
@[simp] theorem State.afterFetch_eiDelay (s : State) : (s.afterFetch).eiDelay = s.eiDelay := rfl
@[simp] theorem State.afterFetch_power (s : State) : (s.afterFetch).power = s.power := rfl
@[simp] theorem State.afterFetch_faultRec (s : State) : (s.afterFetch).faultRec = s.faultRec := rfl
@[simp] theorem State.afterFetch_mem (s : State) : (s.afterFetch).mem = s.mem := rfl
@[simp] theorem State.afterFetch_ifReg (s : State) : (s.afterFetch).ifReg = s.ifReg := rfl
@[simp] theorem State.afterFetch_ie (s : State) : (s.afterFetch).ie = s.ie := rfl
@[simp] theorem State.afterFetch_mode (s : State) : (s.afterFetch).mode = s.mode := rfl
@[simp] theorem State.afterFetch_line (s : State) : (s.afterFetch).line = s.line := rfl
@[simp] theorem State.afterFetch_counter (s : State) : (s.afterFetch).counter = s.counter := rfl
@[simp] theorem State.afterFetch_fb (s : State) : (s.afterFetch).fb = s.fb := rfl
@[simp] theorem State.afterFetch_cycles (s : State) : (s.afterFetch).cycles = s.cycles := rfl
@[simp] theorem State.afterFetch_opcode (s : State) : (s.afterFetch).opcode = s.fetchOpcode := rfl
@[simp] theorem State.afterFetch_events (s : State) : (s.afterFetch).events = s.events := rfl
@[simp] theorem State.afterFetch_reads (s : State) : (s.afterFetch).reads = s.reads + s.fetchLength := rfl
@[simp] theorem State.afterFetch_inputs (s : State) : (s.afterFetch).inputs = s.inputs := rfl
@[simp] theorem State.afterFetch_timing (s : State) : (s.afterFetch).timing = s.timing := rfl

/-! ### `idle` -/

@[simp] theorem State.idle_a (s : State) : (s.idle).a = s.a := rfl
@[simp] theorem State.idle_f (s : State) : (s.idle).f = s.f := rfl
@[simp] theorem State.idle_b (s : State) : (s.idle).b = s.b := rfl
@[simp] theorem State.idle_c (s : State) : (s.idle).c = s.c := rfl
@[simp] theorem State.idle_d (s : State) : (s.idle).d = s.d := rfl
@[simp] theorem State.idle_e (s : State) : (s.idle).e = s.e := rfl
@[simp] theorem State.idle_h (s : State) : (s.idle).h = s.h := rfl
@[simp] theorem State.idle_l (s : State) : (s.idle).l = s.l := rfl
@[simp] theorem State.idle_sp (s : State) : (s.idle).sp = s.sp := rfl
@[simp] theorem State.idle_pc (s : State) : (s.idle).pc = s.pc := rfl
@[simp] theorem State.idle_ime (s : State) : (s.idle).ime = s.ime := rfl
@[simp] theorem State.idle_eiDelay (s : State) : (s.idle).eiDelay = s.eiDelay := rfl
@[simp] theorem State.idle_power (s : State) : (s.idle).power = s.power := rfl
@[simp] theorem State.idle_faultRec (s : State) : (s.idle).faultRec = s.faultRec := rfl
@[simp] theorem State.idle_mem (s : State) : (s.idle).mem = s.mem := rfl
@[simp] theorem State.idle_ifReg (s : State) : (s.idle).ifReg = s.ifReg := rfl
@[simp] theorem State.idle_ie (s : State) : (s.idle).ie = s.ie := rfl
@[simp] theorem State.idle_mode (s : State) : (s.idle).mode = s.mode := rfl
@[simp] theorem State.idle_line (s : State) : (s.idle).line = s.line := rfl
@[simp] theorem State.idle_counter (s : State) : (s.idle).counter = s.counter := rfl
@[simp] theorem State.idle_fb (s : State) : (s.idle).fb = s.fb := rfl
@[simp] theorem State.idle_cycles (s : State) : (s.idle).cycles = s.timing.haltIdle := rfl
@[simp] theorem State.idle_opcode (s : State) : (s.idle).opcode = [] := rfl
@[simp] theorem State.idle_events (s : State) : (s.idle).events = s.events := rfl
@[simp] theorem State.idle_reads (s : State) : (s.idle).reads = s.reads := rfl
@[simp] theorem State.idle_inputs (s : State) : (s.idle).inputs = s.inputs := rfl
@[simp] theorem State.idle_timing (s : State) : (s.idle).timing = s.timing := rfl

/-! ### `wake` -/

@[simp] theorem State.wake_a (s : State) : (s.wake).a = s.a := rfl
@[simp] theorem State.wake_f (s : State) : (s.wake).f = s.f := rfl
@[simp] theorem State.wake_b (s : State) : (s.wake).b = s.b := rfl
@[simp] theorem State.wake_c (s : State) : (s.wake).c = s.c := rfl
@[simp] theorem State.wake_d (s : State) : (s.wake).d = s.d := rfl
@[simp] theorem State.wake_e (s : State) : (s.wake).e = s.e := rfl
@[simp] theorem State.wake_h (s : State) : (s.wake).h = s.h := rfl
@[simp] theorem State.wake_l (s : State) : (s.wake).l = s.l := rfl
@[simp] theorem State.wake_sp (s : State) : (s.wake).sp = s.sp := rfl
@[simp] theorem State.wake_pc (s : State) : (s.wake).pc = s.pc := rfl
@[simp] theorem State.wake_ime (s : State) : (s.wake).ime = s.ime := rfl
@[simp] theorem State.wake_eiDelay (s : State) : (s.wake).eiDelay = s.eiDelay := rfl
@[simp] theorem State.wake_power (s : State) : (s.wake).power = .run := rfl
@[simp] theorem State.wake_faultRec (s : State) : (s.wake).faultRec = s.faultRec := rfl
@[simp] theorem State.wake_mem (s : State) : (s.wake).mem = s.mem := rfl
@[simp] theorem State.wake_ifReg (s : State) : (s.wake).ifReg = s.ifReg := rfl
@[simp] theorem State.wake_ie (s : State) : (s.wake).ie = s.ie := rfl
@[simp] theorem State.wake_mode (s : State) : (s.wake).mode = s.mode := rfl
@[simp] theorem State.wake_line (s : State) : (s.wake).line = s.line := rfl
@[simp] theorem State.wake_counter (s : State) : (s.wake).counter = s.counter := rfl
@[simp] theorem State.wake_fb (s : State) : (s.wake).fb = s.fb := rfl
@[simp] theorem State.wake_cycles (s : State) : (s.wake).cycles = s.cycles := rfl
@[simp] theorem State.wake_opcode (s : State) : (s.wake).opcode = s.opcode := rfl
@[simp] theorem State.wake_events (s : State) : (s.wake).events = s.events := rfl
@[simp] theorem State.wake_reads (s : State) : (s.wake).reads = s.reads := rfl
@[simp] theorem State.wake_inputs (s : State) : (s.wake).inputs = s.inputs := rfl
@[simp] theorem State.wake_timing (s : State) : (s.wake).timing = s.timing := rfl

/-! ### `dispatchStep` -/

@[simp] theorem State.dispatchStep_a (i : IntSource) (s : State) : (s.dispatchStep i).a = s.a := by simp [State.dispatchStep]
@[simp] theorem State.dispatchStep_f (i : IntSource) (s : State) : (s.dispatchStep i).f = s.f := by simp [State.dispatchStep]
@[simp] theorem State.dispatchStep_b (i : IntSource) (s : State) : (s.dispatchStep i).b = s.b := by simp [State.dispatchStep]
@[simp] theorem State.dispatchStep_c (i : IntSource) (s : State) : (s.dispatchStep i).c = s.c := by simp [State.dispatchStep]
@[simp] theorem State.dispatchStep_d (i : IntSource) (s : State) : (s.dispatchStep i).d = s.d := by simp [State.dispatchStep]
@[simp] theorem State.dispatchStep_e (i : IntSource) (s : State) : (s.dispatchStep i).e = s.e := by simp [State.dispatchStep]
@[simp] theorem State.dispatchStep_h (i : IntSource) (s : State) : (s.dispatchStep i).h = s.h := by simp [State.dispatchStep]
@[simp] theorem State.dispatchStep_l (i : IntSource) (s : State) : (s.dispatchStep i).l = s.l := by simp [State.dispatchStep]
@[simp] theorem State.dispatchStep_sp (i : IntSource) (s : State) : (s.dispatchStep i).sp = s.sp - 2 := by simp [State.dispatchStep]
@[simp] theorem State.dispatchStep_pc (i : IntSource) (s : State) : (s.dispatchStep i).pc = i.vector := by simp [State.dispatchStep]
@[simp] theorem State.dispatchStep_ime (i : IntSource) (s : State) : (s.dispatchStep i).ime = false := by simp [State.dispatchStep]
@[simp] theorem State.dispatchStep_eiDelay (i : IntSource) (s : State) : (s.dispatchStep i).eiDelay = 0 := by simp [State.dispatchStep]
@[simp] theorem State.dispatchStep_power (i : IntSource) (s : State) : (s.dispatchStep i).power = s.power := by simp [State.dispatchStep]
@[simp] theorem State.dispatchStep_faultRec (i : IntSource) (s : State) : (s.dispatchStep i).faultRec = s.faultRec := by simp [State.dispatchStep]
@[simp] theorem State.dispatchStep_mode (i : IntSource) (s : State) : (s.dispatchStep i).mode = s.mode := by simp [State.dispatchStep]
@[simp] theorem State.dispatchStep_line (i : IntSource) (s : State) : (s.dispatchStep i).line = s.line := by simp [State.dispatchStep]
@[simp] theorem State.dispatchStep_counter (i : IntSource) (s : State) : (s.dispatchStep i).counter = s.counter := by simp [State.dispatchStep]
@[simp] theorem State.dispatchStep_fb (i : IntSource) (s : State) : (s.dispatchStep i).fb = s.fb := by simp [State.dispatchStep]
@[simp] theorem State.dispatchStep_cycles (i : IntSource) (s : State) : (s.dispatchStep i).cycles = s.timing.intDispatch := by simp [State.dispatchStep]
@[simp] theorem State.dispatchStep_opcode (i : IntSource) (s : State) : (s.dispatchStep i).opcode = [] := by simp [State.dispatchStep]
@[simp] theorem State.dispatchStep_reads (i : IntSource) (s : State) : (s.dispatchStep i).reads = s.reads := by simp [State.dispatchStep]
@[simp] theorem State.dispatchStep_inputs (i : IntSource) (s : State) : (s.dispatchStep i).inputs = s.inputs := by simp [State.dispatchStep]
@[simp] theorem State.dispatchStep_timing (i : IntSource) (s : State) : (s.dispatchStep i).timing = s.timing := by simp [State.dispatchStep]

/-! ### `eiTick` -/

@[simp] theorem State.eiTick_a (s : State) : (s.eiTick).a = s.a := by unfold State.eiTick; split <;> [skip; split] <;> rfl
@[simp] theorem State.eiTick_f (s : State) : (s.eiTick).f = s.f := by unfold State.eiTick; split <;> [skip; split] <;> rfl
@[simp] theorem State.eiTick_b (s : State) : (s.eiTick).b = s.b := by unfold State.eiTick; split <;> [skip; split] <;> rfl
@[simp] theorem State.eiTick_c (s : State) : (s.eiTick).c = s.c := by unfold State.eiTick; split <;> [skip; split] <;> rfl
@[simp] theorem State.eiTick_d (s : State) : (s.eiTick).d = s.d := by unfold State.eiTick; split <;> [skip; split] <;> rfl
@[simp] theorem State.eiTick_e (s : State) : (s.eiTick).e = s.e := by unfold State.eiTick; split <;> [skip; split] <;> rfl
@[simp] theorem State.eiTick_h (s : State) : (s.eiTick).h = s.h := by unfold State.eiTick; split <;> [skip; split] <;> rfl
@[simp] theorem State.eiTick_l (s : State) : (s.eiTick).l = s.l := by unfold State.eiTick; split <;> [skip; split] <;> rfl
@[simp] theorem State.eiTick_sp (s : State) : (s.eiTick).sp = s.sp := by unfold State.eiTick; split <;> [skip; split] <;> rfl
@[simp] theorem State.eiTick_pc (s : State) : (s.eiTick).pc = s.pc := by unfold State.eiTick; split <;> [skip; split] <;> rfl
@[simp] theorem State.eiTick_power (s : State) : (s.eiTick).power = s.power := by unfold State.eiTick; split <;> [skip; split] <;> rfl
@[simp] theorem State.eiTick_faultRec (s : State) : (s.eiTick).faultRec = s.faultRec := by unfold State.eiTick; split <;> [skip; split] <;> rfl
@[simp] theorem State.eiTick_mem (s : State) : (s.eiTick).mem = s.mem := by unfold State.eiTick; split <;> [skip; split] <;> rfl
@[simp] theorem State.eiTick_ifReg (s : State) : (s.eiTick).ifReg = s.ifReg := by unfold State.eiTick; split <;> [skip; split] <;> rfl
@[simp] theorem State.eiTick_ie (s : State) : (s.eiTick).ie = s.ie := by unfold State.eiTick; split <;> [skip; split] <;> rfl
@[simp] theorem State.eiTick_mode (s : State) : (s.eiTick).mode = s.mode := by unfold State.eiTick; split <;> [skip; split] <;> rfl
@[simp] theorem State.eiTick_line (s : State) : (s.eiTick).line = s.line := by unfold State.eiTick; split <;> [skip; split] <;> rfl
@[simp] theorem State.eiTick_counter (s : State) : (s.eiTick).counter = s.counter := by unfold State.eiTick; split <;> [skip; split] <;> rfl
@[simp] theorem State.eiTick_fb (s : State) : (s.eiTick).fb = s.fb := by unfold State.eiTick; split <;> [skip; split] <;> rfl
@[simp] theorem State.eiTick_cycles (s : State) : (s.eiTick).cycles = s.cycles := by unfold State.eiTick; split <;> [skip; split] <;> rfl
@[simp] theorem State.eiTick_opcode (s : State) : (s.eiTick).opcode = s.opcode := by unfold State.eiTick; split <;> [skip; split] <;> rfl
@[simp] theorem State.eiTick_events (s : State) : (s.eiTick).events = s.events := by unfold State.eiTick; split <;> [skip; split] <;> rfl
@[simp] theorem State.eiTick_reads (s : State) : (s.eiTick).reads = s.reads := by unfold State.eiTick; split <;> [skip; split] <;> rfl
@[simp] theorem State.eiTick_inputs (s : State) : (s.eiTick).inputs = s.inputs := by unfold State.eiTick; split <;> [skip; split] <;> rfl
@[simp] theorem State.eiTick_timing (s : State) : (s.eiTick).timing = s.timing := by unfold State.eiTick; split <;> [skip; split] <;> rfl

/-! ### `endInstruction` -/

@[simp] theorem State.endInstruction_a (s : State) : (s.endInstruction).a = s.a := by unfold State.endInstruction; split <;> simp
@[simp] theorem State.endInstruction_f (s : State) : (s.endInstruction).f = s.f := by unfold State.endInstruction; split <;> simp
@[simp] theorem State.endInstruction_b (s : State) : (s.endInstruction).b = s.b := by unfold State.endInstruction; split <;> simp
@[simp] theorem State.endInstruction_c (s : State) : (s.endInstruction).c = s.c := by unfold State.endInstruction; split <;> simp
@[simp] theorem State.endInstruction_d (s : State) : (s.endInstruction).d = s.d := by unfold State.endInstruction; split <;> simp
@[simp] theorem State.endInstruction_e (s : State) : (s.endInstruction).e = s.e := by unfold State.endInstruction; split <;> simp
@[simp] theorem State.endInstruction_h (s : State) : (s.endInstruction).h = s.h := by unfold State.endInstruction; split <;> simp
@[simp] theorem State.endInstruction_l (s : State) : (s.endInstruction).l = s.l := by unfold State.endInstruction; split <;> simp
@[simp] theorem State.endInstruction_sp (s : State) : (s.endInstruction).sp = s.sp := by unfold State.endInstruction; split <;> simp
@[simp] theorem State.endInstruction_pc (s : State) : (s.endInstruction).pc = s.pc := by unfold State.endInstruction; split <;> simp
@[simp] theorem State.endInstruction_power (s : State) : (s.endInstruction).power = s.power := by unfold State.endInstruction; split <;> simp
@[simp] theorem State.endInstruction_faultRec (s : State) : (s.endInstruction).faultRec = s.faultRec := by unfold State.endInstruction; split <;> simp
@[simp] theorem State.endInstruction_mem (s : State) : (s.endInstruction).mem = s.mem := by unfold State.endInstruction; split <;> simp
@[simp] theorem State.endInstruction_ifReg (s : State) : (s.endInstruction).ifReg = s.ifReg := by unfold State.endInstruction; split <;> simp
@[simp] theorem State.endInstruction_ie (s : State) : (s.endInstruction).ie = s.ie := by unfold State.endInstruction; split <;> simp
@[simp] theorem State.endInstruction_mode (s : State) : (s.endInstruction).mode = s.mode := by unfold State.endInstruction; split <;> simp
@[simp] theorem State.endInstruction_line (s : State) : (s.endInstruction).line = s.line := by unfold State.endInstruction; split <;> simp
@[simp] theorem State.endInstruction_counter (s : State) : (s.endInstruction).counter = s.counter := by unfold State.endInstruction; split <;> simp
@[simp] theorem State.endInstruction_fb (s : State) : (s.endInstruction).fb = s.fb := by unfold State.endInstruction; split <;> simp
@[simp] theorem State.endInstruction_cycles (s : State) : (s.endInstruction).cycles = s.cycles := by unfold State.endInstruction; split <;> simp
@[simp] theorem State.endInstruction_opcode (s : State) : (s.endInstruction).opcode = s.opcode := by unfold State.endInstruction; split <;> simp
@[simp] theorem State.endInstruction_events (s : State) : (s.endInstruction).events = s.events := by unfold State.endInstruction; split <;> simp
@[simp] theorem State.endInstruction_reads (s : State) : (s.endInstruction).reads = s.reads := by unfold State.endInstruction; split <;> simp
@[simp] theorem State.endInstruction_inputs (s : State) : (s.endInstruction).inputs = s.inputs := by unfold State.endInstruction; split <;> simp
@[simp] theorem State.endInstruction_timing (s : State) : (s.endInstruction).timing = s.timing := by unfold State.endInstruction; split <;> simp

/-! ### `latchInput` -/

@[simp] theorem State.latchInput_a (s : State) : (s.latchInput).a = s.a := rfl
@[simp] theorem State.latchInput_f (s : State) : (s.latchInput).f = s.f := rfl
@[simp] theorem State.latchInput_b (s : State) : (s.latchInput).b = s.b := rfl
@[simp] theorem State.latchInput_c (s : State) : (s.latchInput).c = s.c := rfl
@[simp] theorem State.latchInput_d (s : State) : (s.latchInput).d = s.d := rfl
@[simp] theorem State.latchInput_e (s : State) : (s.latchInput).e = s.e := rfl
@[simp] theorem State.latchInput_h (s : State) : (s.latchInput).h = s.h := rfl
@[simp] theorem State.latchInput_l (s : State) : (s.latchInput).l = s.l := rfl
@[simp] theorem State.latchInput_sp (s : State) : (s.latchInput).sp = s.sp := rfl
@[simp] theorem State.latchInput_pc (s : State) : (s.latchInput).pc = s.pc := rfl
@[simp] theorem State.latchInput_ime (s : State) : (s.latchInput).ime = s.ime := rfl
@[simp] theorem State.latchInput_eiDelay (s : State) : (s.latchInput).eiDelay = s.eiDelay := rfl
@[simp] theorem State.latchInput_power (s : State) : (s.latchInput).power = s.power := rfl
@[simp] theorem State.latchInput_faultRec (s : State) : (s.latchInput).faultRec = s.faultRec := rfl
@[simp] theorem State.latchInput_mem (s : State) : (s.latchInput).mem = s.mem := rfl
@[simp] theorem State.latchInput_ifReg (s : State) : (s.latchInput).ifReg = s.ifReg ||| (s.nextInput.irq &&& 0x1C) := rfl
@[simp] theorem State.latchInput_ie (s : State) : (s.latchInput).ie = s.ie := rfl
@[simp] theorem State.latchInput_mode (s : State) : (s.latchInput).mode = s.mode := rfl
@[simp] theorem State.latchInput_line (s : State) : (s.latchInput).line = s.line := rfl
@[simp] theorem State.latchInput_counter (s : State) : (s.latchInput).counter = s.counter := rfl
@[simp] theorem State.latchInput_fb (s : State) : (s.latchInput).fb = s.fb := rfl
@[simp] theorem State.latchInput_cycles (s : State) : (s.latchInput).cycles = s.cycles := rfl
@[simp] theorem State.latchInput_opcode (s : State) : (s.latchInput).opcode = s.opcode := rfl
@[simp] theorem State.latchInput_events (s : State) : (s.latchInput).events = s.events := rfl
@[simp] theorem State.latchInput_reads (s : State) : (s.latchInput).reads = s.reads := rfl
@[simp] theorem State.latchInput_inputs (s : State) : (s.latchInput).inputs = s.inputs.tail := rfl
@[simp] theorem State.latchInput_timing (s : State) : (s.latchInput).timing = s.timing := rfl

/-! ### `renderLine` -/

@[simp] theorem State.renderLine_a (ly : Nat) (s : State) : (s.renderLine ly).a = s.a := rfl
@[simp] theorem State.renderLine_f (ly : Nat) (s : State) : (s.renderLine ly).f = s.f := rfl
@[simp] theorem State.renderLine_b (ly : Nat) (s : State) : (s.renderLine ly).b = s.b := rfl
@[simp] theorem State.renderLine_c (ly : Nat) (s : State) : (s.renderLine ly).c = s.c := rfl
@[simp] theorem State.renderLine_d (ly : Nat) (s : State) : (s.renderLine ly).d = s.d := rfl
@[simp] theorem State.renderLine_e (ly : Nat) (s : State) : (s.renderLine ly).e = s.e := rfl
@[simp] theorem State.renderLine_h (ly : Nat) (s : State) : (s.renderLine ly).h = s.h := rfl
@[simp] theorem State.renderLine_l (ly : Nat) (s : State) : (s.renderLine ly).l = s.l := rfl
@[simp] theorem State.renderLine_sp (ly : Nat) (s : State) : (s.renderLine ly).sp = s.sp := rfl
@[simp] theorem State.renderLine_pc (ly : Nat) (s : State) : (s.renderLine ly).pc = s.pc := rfl
@[simp] theorem State.renderLine_ime (ly : Nat) (s : State) : (s.renderLine ly).ime = s.ime := rfl
@[simp] theorem State.renderLine_eiDelay (ly : Nat) (s : State) : (s.renderLine ly).eiDelay = s.eiDelay := rfl
@[simp] theorem State.renderLine_power (ly : Nat) (s : State) : (s.renderLine ly).power = s.power := rfl
@[simp] theorem State.renderLine_faultRec (ly : Nat) (s : State) : (s.renderLine ly).faultRec = s.faultRec := rfl
@[simp] theorem State.renderLine_mem (ly : Nat) (s : State) : (s.renderLine ly).mem = s.mem := rfl
@[simp] theorem State.renderLine_ifReg (ly : Nat) (s : State) : (s.renderLine ly).ifReg = s.ifReg := rfl
@[simp] theorem State.renderLine_ie (ly : Nat) (s : State) : (s.renderLine ly).ie = s.ie := rfl
@[simp] theorem State.renderLine_mode (ly : Nat) (s : State) : (s.renderLine ly).mode = s.mode := rfl
@[simp] theorem State.renderLine_line (ly : Nat) (s : State) : (s.renderLine ly).line = s.line := rfl
@[simp] theorem State.renderLine_counter (ly : Nat) (s : State) : (s.renderLine ly).counter = s.counter := rfl
@[simp] theorem State.renderLine_fb (ly : Nat) (s : State) : (s.renderLine ly).fb = s.fb.setIfInBounds ly (s.scanline ly) := rfl
@[simp] theorem State.renderLine_cycles (ly : Nat) (s : State) : (s.renderLine ly).cycles = s.cycles := rfl
@[simp] theorem State.renderLine_opcode (ly : Nat) (s : State) : (s.renderLine ly).opcode = s.opcode := rfl
@[simp] theorem State.renderLine_events (ly : Nat) (s : State) : (s.renderLine ly).events = s.events := rfl
@[simp] theorem State.renderLine_reads (ly : Nat) (s : State) : (s.renderLine ly).reads = s.reads := rfl
@[simp] theorem State.renderLine_inputs (ly : Nat) (s : State) : (s.renderLine ly).inputs = s.inputs := rfl
@[simp] theorem State.renderLine_timing (ly : Nat) (s : State) : (s.renderLine ly).timing = s.timing := rfl

/-! ### `ppuAdvance` -/

@[simp] theorem State.ppuAdvance_a (s : State) : (s.ppuAdvance).a = s.a := by
  unfold State.ppuAdvance; (split <;> try split) <;> rfl
@[simp] theorem State.ppuAdvance_f (s : State) : (s.ppuAdvance).f = s.f := by
  unfold State.ppuAdvance; (split <;> try split) <;> rfl
@[simp] theorem State.ppuAdvance_b (s : State) : (s.ppuAdvance).b = s.b := by
  unfold State.ppuAdvance; (split <;> try split) <;> rfl
@[simp] theorem State.ppuAdvance_c (s : State) : (s.ppuAdvance).c = s.c := by
  unfold State.ppuAdvance; (split <;> try split) <;> rfl
@[simp] theorem State.ppuAdvance_d (s : State) : (s.ppuAdvance).d = s.d := by
  unfold State.ppuAdvance; (split <;> try split) <;> rfl
@[simp] theorem State.ppuAdvance_e (s : State) : (s.ppuAdvance).e = s.e := by
  unfold State.ppuAdvance; (split <;> try split) <;> rfl
@[simp] theorem State.ppuAdvance_h (s : State) : (s.ppuAdvance).h = s.h := by
  unfold State.ppuAdvance; (split <;> try split) <;> rfl
@[simp] theorem State.ppuAdvance_l (s : State) : (s.ppuAdvance).l = s.l := by
  unfold State.ppuAdvance; (split <;> try split) <;> rfl
@[simp] theorem State.ppuAdvance_sp (s : State) : (s.ppuAdvance).sp = s.sp := by
  unfold State.ppuAdvance; (split <;> try split) <;> rfl
@[simp] theorem State.ppuAdvance_pc (s : State) : (s.ppuAdvance).pc = s.pc := by
  unfold State.ppuAdvance; (split <;> try split) <;> rfl
@[simp] theorem State.ppuAdvance_ime (s : State) : (s.ppuAdvance).ime = s.ime := by
  unfold State.ppuAdvance; (split <;> try split) <;> rfl
@[simp] theorem State.ppuAdvance_eiDelay (s : State) : (s.ppuAdvance).eiDelay = s.eiDelay := by
  unfold State.ppuAdvance; (split <;> try split) <;> rfl
@[simp] theorem State.ppuAdvance_power (s : State) : (s.ppuAdvance).power = s.power := by
  unfold State.ppuAdvance; (split <;> try split) <;> rfl
@[simp] theorem State.ppuAdvance_faultRec (s : State) : (s.ppuAdvance).faultRec = s.faultRec := by
  unfold State.ppuAdvance; (split <;> try split) <;> rfl
@[simp] theorem State.ppuAdvance_mem (s : State) : (s.ppuAdvance).mem = s.mem := by
  unfold State.ppuAdvance; (split <;> try split) <;> rfl
@[simp] theorem State.ppuAdvance_ie (s : State) : (s.ppuAdvance).ie = s.ie := by
  unfold State.ppuAdvance; (split <;> try split) <;> rfl
@[simp] theorem State.ppuAdvance_cycles (s : State) : (s.ppuAdvance).cycles = s.cycles := by
  unfold State.ppuAdvance; (split <;> try split) <;> rfl
@[simp] theorem State.ppuAdvance_opcode (s : State) : (s.ppuAdvance).opcode = s.opcode := by
  unfold State.ppuAdvance; (split <;> try split) <;> rfl
@[simp] theorem State.ppuAdvance_events (s : State) : (s.ppuAdvance).events = s.events := by
  unfold State.ppuAdvance; (split <;> try split) <;> rfl
@[simp] theorem State.ppuAdvance_reads (s : State) : (s.ppuAdvance).reads = s.reads := by
  unfold State.ppuAdvance; (split <;> try split) <;> rfl
@[simp] theorem State.ppuAdvance_inputs (s : State) : (s.ppuAdvance).inputs = s.inputs := by
  unfold State.ppuAdvance; (split <;> try split) <;> rfl
@[simp] theorem State.ppuAdvance_timing (s : State) : (s.ppuAdvance).timing = s.timing := by
  unfold State.ppuAdvance; (split <;> try split) <;> rfl

end Sys2Proof.Machine
end

