-- ==== Sys2Proof/Laws/Memory.lean ====
section
/-! SUPPORT. Sys2Proof/Laws/Memory.lean: the laws of the backing array: a read after a write, and the canonical form. -/

namespace Sys2Proof.Machine

theorem Memory.get_filter_ne (m : Memory) (a b : Nat) :
    Memory.get (m.filter (fun cell => cell.1 != a)) b = if b = a then Memory.initial a else Memory.get m b := by
  induction m with
  | nil => by_cases h : b = a <;> simp [Memory.get, h]
  | cons cell m ih =>
    by_cases hk : cell.1 = a
    · rw [List.filter_cons_of_neg (by simpa using hk), ih]
      by_cases hb : b = a
      · simp [hb]
      · have hne : cell.1 ≠ b := fun h => hb (h ▸ hk)
        simp [hb, Memory.get, hne]
    · rw [List.filter_cons_of_pos (by simpa using hk)]
      simp only [Memory.get, ih]
      by_cases hb : b = a
      · simp [hb, hk]
      · simp [hb]

theorem Memory.get_insert (m : Memory) (a b : Nat) (v : Byte) :
    Memory.get (Memory.insert m a v) b = if b = a then v else Memory.get m b := by
  induction m with
  | nil => by_cases h : a = b <;> simp [Memory.insert, Memory.get, h, eq_comm]
  | cons cell m ih =>
    simp only [Memory.insert]
    split
    · by_cases h : a = b <;> simp [Memory.get, h, eq_comm]
    · split
      · rename_i hk
        by_cases h : a = b
        · simp [Memory.get, h]
        · simp [Memory.get, h, Ne.symm h, hk]
      · rename_i hk
        simp only [Memory.get, ih]
        by_cases hb : b = a
        · simp [hb, hk]
        · simp [hb]

/-- A read after a write: the value written at the address, every other byte as before. -/
@[simp] theorem Memory.get_set (m : Memory) (a b : Nat) (v : Byte) :
    (m.set a v).get b = if b = a then v else m.get b := by
  unfold Memory.set
  split
  · rename_i hv
    rw [Memory.get_filter_ne, hv]
  · exact Memory.get_insert m a b v

theorem Memory.mem_insert {m : Memory} {a : Nat} {v : Byte} {cell : Host.Cell} (h : cell ∈ Memory.insert m a v) :
    cell = (a, v) ∨ cell ∈ m := by
  induction m with
  | nil => simpa [Memory.insert] using h
  | cons head m ih =>
    simp only [Memory.insert] at h
    split at h
    · simpa using h
    · split at h
      · rcases List.mem_cons.1 h with h | h
        · exact .inl h
        · exact .inr (List.mem_cons_of_mem _ h)
      · rcases List.mem_cons.1 h with h | h
        · exact .inr (h ▸ List.mem_cons_self)
        · exact (ih h).imp id (List.mem_cons_of_mem _)

theorem Memory.pairwise_insert {m : Memory} (hm : m.Pairwise (fun x y => x.1 < y.1)) (a : Nat) (v : Byte) :
    (Memory.insert m a v).Pairwise (fun x y => x.1 < y.1) := by
  induction m with
  | nil => simp [Memory.insert]
  | cons head m ih =>
    obtain ⟨hhead, htail⟩ := List.pairwise_cons.1 hm
    simp only [Memory.insert]
    split
    · rename_i hlt
      refine List.pairwise_cons.2 ⟨fun y hy => ?_, hm⟩
      rcases List.mem_cons.1 hy with rfl | hy
      · exact hlt
      · exact Nat.lt_trans hlt (hhead y hy)
    · split
      · rename_i heq
        exact List.pairwise_cons.2 ⟨fun y hy => heq ▸ hhead y hy, htail⟩
      · rename_i hge hne
        refine List.pairwise_cons.2 ⟨fun y hy => ?_, ih htail⟩
        rcases Memory.mem_insert hy with rfl | hy
        · show head.1 < a; omega
        · exact hhead y hy

/-- A write to an address of the space keeps the canonical form. -/
theorem Memory.wf_set {m : Memory} (hm : m.wf) {a : Nat} (ha : a < 0x10000) (v : Byte) : (m.set a v).wf := by
  unfold Memory.set
  split
  · exact ⟨hm.1.filter _, fun cell hc => hm.2 cell (List.mem_filter.1 hc).1⟩
  · rename_i hv
    refine ⟨Memory.pairwise_insert hm.1 a v, fun cell hc => ?_⟩
    rcases Memory.mem_insert hc with rfl | hc
    · exact ⟨ha, hv⟩
    · exact hm.2 cell hc

theorem reset_mem_wf : Memory.wf State.reset.mem := by decide

theorem State.setMem_wf {s : State} (h : Memory.wf s.mem) (addr : Word) (v : Byte) : Memory.wf (s.setMem addr v).mem :=
  Memory.wf_set h (by have := addr.isLt; omega) v

/-- A bus write keeps the canonical form. -/
theorem State.memWrite_wf {s : State} (h : Memory.wf s.mem) (addr : Word) (v : Byte) :
    Memory.wf (s.memWrite addr v).mem := by
  unfold State.memWrite
  split <;> first | exact h | exact State.setMem_wf h _ _

theorem State.memWrite16_wf {s : State} (h : Memory.wf s.mem) (addr v : Word) : Memory.wf (s.memWrite16 addr v).mem :=
  State.memWrite_wf (State.memWrite_wf h _ _) _ _

theorem State.push16_wf {s : State} (h : Memory.wf s.mem) (v : Word) : Memory.wf (s.push16 v).mem := by
  have high := State.memWrite_wf (s := ({ s with sp := s.sp - 1 } : State)) h (s.sp - 1) (hiByte v)
  exact State.memWrite_wf (s := ({ ({ s with sp := s.sp - 1 } : State).memWrite (s.sp - 1) (hiByte v) with
    sp := s.sp - 2 } : State)) high _ _

theorem State.setOperand_wf {s : State} (h : Memory.wf s.mem) (o : Operand8) (v : Byte) :
    Memory.wf (s.setOperand o v).mem := by
  cases o with
  | reg r => simpa [State.setOperand] using h
  | atHl => exact State.memWrite_wf h _ _

/-- `load` keeps the canonical form (R53). -/
theorem State.load_wf {s t : State} (h : Memory.wf s.mem) {base : Word} {bytes : List Byte}
    (ht : s.load base bytes = some t) : Memory.wf t.mem := by
  have install : ∀ (bytes : List Byte) (addr : Nat) (s : State), Memory.wf s.mem → addr + bytes.length ≤ 0x10000 →
      Memory.wf (s.install addr bytes).mem := by
    intro bytes
    induction bytes with
    | nil => intro _ _ h _; exact h
    | cons v bytes ih =>
      intro addr s h hle
      simp only [List.length_cons] at hle
      exact ih (addr + 1) _ (Memory.wf_set h (by omega) v) (by omega)
  unfold State.load at ht
  split at ht
  · cases ht
  · cases ht
    exact install bytes _ s h (by omega)

end Sys2Proof.Machine
end

