-- ==== Sys2Proof/Laws/Bus.lean ====
section
/-! SUPPORT. Sys2Proof/Laws/Bus.lean: what a bus read depends on and what a bus write does (spec/20_memory.md R37 to
R44), and the same for the 16-bit accesses and the stack. -/

namespace Sys2Proof.Machine

/-! ## The address map -/

theorem busTarget_ifReg_iff (addr : Word) : busTarget addr = .ifReg ↔ addr = 0xFF0F := by
  constructor
  · intro h
    unfold busTarget at h
    repeat' (split at h; · first | assumption | cases h)
    cases h
  · rintro rfl; decide

theorem busTarget_ie_iff (addr : Word) : busTarget addr = .ie ↔ addr = 0xFFFF := by
  constructor
  · intro h
    unfold busTarget at h
    repeat' (split at h; · first | assumption | cases h)
    cases h
  · rintro rfl; decide

theorem busTarget_stat_iff (addr : Word) : busTarget addr = .stat ↔ addr = 0xFF41 := by
  constructor
  · intro h
    unfold busTarget at h
    repeat' (split at h; · first | assumption | cases h)
    cases h
  · rintro rfl; decide

theorem busTarget_ly_iff (addr : Word) : busTarget addr = .ly ↔ addr = 0xFF44 := by
  constructor
  · intro h
    unfold busTarget at h
    repeat' (split at h; · first | assumption | cases h)
    cases h
  · rintro rfl; decide

theorem busTarget_rom_iff (addr : Word) : busTarget addr = .rom ↔ addr.toNat < 0x8000 := by
  unfold busTarget
  repeat' split
  all_goals simp_all

/-! ## Reads -/

/-- A bus read depends on the backing array, IF, IE, the PPU's position and, at a device, the draw. -/
theorem State.busRead_congr {s t : State} {addr : Word} (hm : t.mem = s.mem) (hif : t.ifReg = s.ifReg) (hie : t.ie = s.ie)
    (hmode : t.mode = s.mode) (hline : t.line = s.line) (hp : busTarget addr ≠ .periph ∨ t.reads = s.reads) :
    t.busRead addr = s.busRead addr := by
  unfold State.busRead
  split <;> simp_all

/-- A form that leaves the bus and the PPU alone leaves every byte alone. -/
theorem SameBytesExcept.of_same {s t : State} (hm : t.mem = s.mem) (hif : t.ifReg = s.ifReg) (hie : t.ie = s.ie)
    (hmode : t.mode = s.mode) (hline : t.line = s.line) (stored : Word → Prop) : SameBytesExcept stored s t :=
  fun _ _ hp => State.busRead_congr hm hif hie hmode hline (.inl hp)

/-! ## Writes -/

theorem State.memWrite_mem_ne (s : State) (addr : Word) (v : Byte) {n : Nat} (h : n ≠ addr.toNat) :
    (s.memWrite addr v).mem.get n = s.mem.get n := by
  unfold State.memWrite
  split <;> simp [State.setMem, h]

/-- A bus write changes the backing array in that byte only, and only where the map stores to it (R37 to R41). -/
theorem State.memWrite_array (s : State) (addr : Word) (v : Byte) (a : Word) :
    (s.memWrite addr v).mem.get a.toNat =
      if a = addr ∧ busTarget addr = .plain then v
      else if a = addr ∧ addr = 0xFF41 then v &&& 0xFC
      else s.mem.get a.toNat := by
  have h := busTarget_stat_iff addr
  by_cases ha : a = addr
  · subst ha
    unfold State.memWrite
    split <;> simp_all [State.setMem, State.emit]
  · rw [State.memWrite_mem_ne s addr v (fun e => ha (BitVec.eq_of_toNat_eq e))]
    simp [ha]

theorem State.memWrite_ifReg (s : State) (addr : Word) (v : Byte) :
    (s.memWrite addr v).ifReg = if addr = 0xFF0F then v.setWidth 5 else s.ifReg := by
  have h := busTarget_ifReg_iff addr
  unfold State.memWrite
  split <;> simp_all [State.emit, State.setMem]

theorem State.memWrite_ie (s : State) (addr : Word) (v : Byte) :
    (s.memWrite addr v).ie = if addr = 0xFFFF then v else s.ie := by
  have h := busTarget_ie_iff addr
  unfold State.memWrite
  split <;> simp_all [State.emit, State.setMem]

theorem State.memWrite_events (s : State) (addr : Word) (v : Byte) :
    (s.memWrite addr v).events =
      if busTarget addr = .rom ∨ busTarget addr = .prohibited then .ignoredWrite addr v :: s.events
      else if busTarget addr = .periph then .periphWrite addr v :: s.events
      else s.events := by
  unfold State.memWrite
  split <;> simp_all [State.emit, State.setMem]

/-- A bus write changes no other byte (R38 to R41). -/
theorem State.memWrite_busRead_ne (s : State) {addr b : Word} (v : Byte) (h : b ≠ addr) :
    (s.memWrite addr v).busRead b = s.busRead b := by
  have hn : b.toNat ≠ addr.toNat := fun e => h (BitVec.eq_of_toNat_eq e)
  have hif := busTarget_ifReg_iff b
  have hie := busTarget_ie_iff b
  have hm := State.memWrite_mem_ne s addr v hn
  unfold State.busRead
  split
  case h_6 => rename_i e; rw [State.memWrite_ifReg, if_neg (fun h' => h ((hif.1 e).trans h'.symm))]
  case h_9 => rename_i e; rw [State.memWrite_ie, if_neg (fun h' => h ((hie.1 e).trans h'.symm))]
  all_goals simp [hm]

/-- What a bus write does (R37 to R41, R44). -/
theorem State.memWrite_wrote (s : State) (addr : Word) (v : Byte) : WroteByte addr v s (s.memWrite addr v) where
  others := fun _ hb _ => State.memWrite_busRead_ne s v hb
  plain := fun h => by simp [State.memWrite, State.busRead, h, State.setMem]
  ignored := fun h => by
    rcases h with h | h | h | h <;> simp [State.memWrite, State.busRead, h, State.emit]
  array := State.memWrite_array s addr v
  ifReg := State.memWrite_ifReg s addr v
  ie := State.memWrite_ie s addr v
  stat := fun h => by
    have ht := (busTarget_stat_iff addr).2 h
    simp [State.memWrite, State.busRead, ht, State.setMem, BitVec.and_assoc]
  events := State.memWrite_events s addr v

/-- `WroteByte` looks at the bus and the PPU's position only. -/
theorem WroteByte.congr {addr : Word} {v : Byte} {s s' t t' : State} (h : WroteByte addr v s t)
    (hsm : s'.mem = s.mem) (hsif : s'.ifReg = s.ifReg) (hsie : s'.ie = s.ie) (hse : s'.events = s.events)
    (hsmode : s'.mode = s.mode) (hsline : s'.line = s.line)
    (htm : t'.mem = t.mem) (htif : t'.ifReg = t.ifReg) (htie : t'.ie = t.ie) (hte : t'.events = t.events)
    (htmode : t'.mode = t.mode) (htline : t'.line = t.line) : WroteByte addr v s' t' where
  others := fun b hb hp => by
    rw [State.busRead_congr htm htif htie htmode htline (.inl hp), h.others b hb hp,
      State.busRead_congr hsm hsif hsie hsmode hsline (.inl hp)]
  plain := fun e => by rw [State.busRead_congr htm htif htie htmode htline (.inl (by simp [e]))]; exact h.plain e
  ignored := fun e => by
    have hp : busTarget addr ≠ .periph := by rcases e with e | e | e | e <;> simp [e]
    rw [State.busRead_congr htm htif htie htmode htline (.inl hp), h.ignored e,
      State.busRead_congr hsm hsif hsie hsmode hsline (.inl hp)]
  array := fun a => by rw [htm, h.array a, hsm]
  ifReg := by rw [htif, h.ifReg, hsif]
  ie := by rw [htie, h.ie, hsie]
  stat := fun e => by
    have hp : busTarget addr ≠ .periph := by simp [(busTarget_stat_iff addr).2 e]
    rw [State.busRead_congr htm htif htie htmode htline (.inl hp), h.stat e, htmode]
  events := by rw [hte, h.events, hse]

/-! ## The stack -/

/-- The first byte write of a push: the high byte at SP - 1 (R86). -/
theorem State.push16_wrote_high (s : State) (v : Word) :
    WroteByte (s.sp - 1) (hiByte v) s (s.memWrite (s.sp - 1) (hiByte v)) := State.memWrite_wrote s _ _

/-- The second byte write of a push: the low byte at SP - 2 (R86). -/
theorem State.push16_wrote_low (s : State) (v : Word) :
    WroteByte (s.sp - 2) (loByte v) (s.memWrite (s.sp - 1) (hiByte v)) (s.push16 v) := by
  refine (State.memWrite_wrote ({ ({ s with sp := s.sp - 1 } : State).memWrite (s.sp - 1) (hiByte v) with
    sp := s.sp - 2 } : State) (s.sp - 2) (loByte v)).congr ?_ ?_ ?_ ?_ ?_ ?_ rfl rfl rfl rfl rfl rfl
  all_goals first
    | (simp; done)
    | (unfold State.memWrite; split <;> rfl)

/-- A push changes no other byte (R86). -/
theorem State.push16_busRead_ne (s : State) (v : Word) {b : Word} (h1 : b ≠ s.sp - 1) (h2 : b ≠ s.sp - 2)
    (hp : busTarget b ≠ .periph) : (s.push16 v).busRead b = s.busRead b := by
  rw [(State.push16_wrote_low s v).others b h2 hp, (State.push16_wrote_high s v).others b h1 hp]

end Sys2Proof.Machine
end

