-- ==== Sys2Proof/Laws/Families.lean ====
section
/-! SUPPORT. Sys2Proof/Laws/Families.lean: the 512 rows by family: a case split over `Instr` with one case per family,
and for each family what `exec` is on it, so that no proof opens `exec` arm by arm. -/

namespace Sys2Proof

/-- Case analysis on an instruction with one case for each family of rows. -/
theorem Instr.byFamily {P : Instr → Prop}
    (ldReg : ∀ dst src, P (.ldReg dst src))
    (ldRegImm : ∀ dst n, P (.ldRegImm dst n))
    (ldRegAtHl : ∀ dst, P (.ldRegAtHl dst))
    (ldAtHlReg : ∀ src, P (.ldAtHlReg src))
    (ldPair : ∀ p n, P (.ldPair p n))
    (push : ∀ p, P (.push p))
    (pop : ∀ p, P (.pop p))
    (alu : ∀ op src, P (.alu op src))
    (inc8 : ∀ o, P (.inc8 o))
    (dec8 : ∀ o, P (.dec8 o))
    (addHl : ∀ p, P (.addHl p))
    (incPair : ∀ p, P (.incPair p))
    (decPair : ∀ p, P (.decPair p))
    (rot : ∀ op o, P (.rot op o))
    (bitTest : ∀ n o, P (.bitTest n o))
    (bitRes : ∀ n o, P (.bitRes n o))
    (bitSet : ∀ n o, P (.bitSet n o))
    (jpCond : ∀ cc n, P (.jpCond cc n))
    (jrCond : ∀ cc e, P (.jrCond cc e))
    (callCond : ∀ cc n, P (.callCond cc n))
    (retCond : ∀ cc, P (.retCond cc))
    (rst : ∀ y, P (.rst y))
    (illegal : ∀ k, P (.illegal k))
    (nop : P .nop)
    (ldAtBcA : P .ldAtBcA)
    (rlca : P .rlca)
    (ldAtA16Sp : ∀ n, P (.ldAtA16Sp n))
    (ldAAtBc : P .ldAAtBc)
    (rrca : P .rrca)
    (stop : ∀ pad, P (.stop pad))
    (ldAtDeA : P .ldAtDeA)
    (rla : P .rla)
    (jrE8 : ∀ e, P (.jrE8 e))
    (ldAAtDe : P .ldAAtDe)
    (rra : P .rra)
    (ldAtHlIncA : P .ldAtHlIncA)
    (daa : P .daa)
    (ldAAtHlInc : P .ldAAtHlInc)
    (cpl : P .cpl)
    (ldAtHlDecA : P .ldAtHlDecA)
    (ldAtHlD8 : ∀ n, P (.ldAtHlD8 n))
    (scf : P .scf)
    (ldAAtHlDec : P .ldAAtHlDec)
    (ccf : P .ccf)
    (halt : P .halt)
    (jpA16 : ∀ n, P (.jpA16 n))
    (ret : P .ret)
    (prefixCb : ∀ op2, P (.prefixCb op2))
    (callA16 : ∀ n, P (.callA16 n))
    (reti : P .reti)
    (ldhAtA8A : ∀ n, P (.ldhAtA8A n))
    (ldAtCA : P .ldAtCA)
    (addSpE8 : ∀ e, P (.addSpE8 e))
    (jpHl : P .jpHl)
    (ldAtA16A : ∀ n, P (.ldAtA16A n))
    (ldhAAtA8 : ∀ n, P (.ldhAAtA8 n))
    (ldAAtC : P .ldAAtC)
    (di : P .di)
    (ldHlSpE8 : ∀ e, P (.ldHlSpE8 e))
    (ldSpHl : P .ldSpHl)
    (ldAAtA16 : ∀ n, P (.ldAAtA16 n))
    (ei : P .ei) : ∀ i, P i
  | .ldBcD16 n => ldPair .bc n
  | .ldBD8 n => ldRegImm .b n
  | .ldAtA16Sp n => ldAtA16Sp n
  | .ldCD8 n => ldRegImm .c n
  | .stop pad => stop pad
  | .ldDeD16 n => ldPair .de n
  | .ldDD8 n => ldRegImm .d n
  | .jrE8 e => jrE8 e
  | .ldED8 n => ldRegImm .e n
  | .jrNzE8 e => jrCond .nz e
  | .ldHlD16 n => ldPair .hl n
  | .ldHD8 n => ldRegImm .h n
  | .jrZE8 e => jrCond .z e
  | .ldLD8 n => ldRegImm .l n
  | .jrNcE8 e => jrCond .nc e
  | .ldSpD16 n => ldPair .sp n
  | .ldAtHlD8 n => ldAtHlD8 n
  | .jrCE8 e => jrCond .c e
  | .ldAD8 n => ldRegImm .a n
  | .jpNzA16 n => jpCond .nz n
  | .jpA16 n => jpA16 n
  | .callNzA16 n => callCond .nz n
  | .addAD8 n => alu .add (.imm n)
  | .jpZA16 n => jpCond .z n
  | .prefixCb op2 => prefixCb op2
  | .callZA16 n => callCond .z n
  | .callA16 n => callA16 n
  | .adcAD8 n => alu .adc (.imm n)
  | .jpNcA16 n => jpCond .nc n
  | .callNcA16 n => callCond .nc n
  | .subD8 n => alu .sub (.imm n)
  | .jpCA16 n => jpCond .c n
  | .callCA16 n => callCond .c n
  | .sbcAD8 n => alu .sbc (.imm n)
  | .ldhAtA8A n => ldhAtA8A n
  | .andD8 n => alu .and (.imm n)
  | .addSpE8 e => addSpE8 e
  | .ldAtA16A n => ldAtA16A n
  | .xorD8 n => alu .xor (.imm n)
  | .ldhAAtA8 n => ldhAAtA8 n
  | .orD8 n => alu .or (.imm n)
  | .ldHlSpE8 e => ldHlSpE8 e
  | .ldAAtA16 n => ldAAtA16 n
  | .cpD8 n => alu .cp (.imm n)
  | .nop => nop
  | .ldAtBcA => ldAtBcA
  | .incBc => incPair .bc
  | .incB => inc8 (.reg .b)
  | .decB => dec8 (.reg .b)
  | .rlca => rlca
  | .addHlBc => addHl .bc
  | .ldAAtBc => ldAAtBc
  | .decBc => decPair .bc
  | .incC => inc8 (.reg .c)
  | .decC => dec8 (.reg .c)
  | .rrca => rrca
  | .ldAtDeA => ldAtDeA
  | .incDe => incPair .de
  | .incD => inc8 (.reg .d)
  | .decD => dec8 (.reg .d)
  | .rla => rla
  | .addHlDe => addHl .de
  | .ldAAtDe => ldAAtDe
  | .decDe => decPair .de
  | .incE => inc8 (.reg .e)
  | .decE => dec8 (.reg .e)
  | .rra => rra
  | .ldAtHlIncA => ldAtHlIncA
  | .incHl => incPair .hl
  | .incH => inc8 (.reg .h)
  | .decH => dec8 (.reg .h)
  | .daa => daa
  | .addHlHl => addHl .hl
  | .ldAAtHlInc => ldAAtHlInc
  | .decHl => decPair .hl
  | .incL => inc8 (.reg .l)
  | .decL => dec8 (.reg .l)
  | .cpl => cpl
  | .ldAtHlDecA => ldAtHlDecA
  | .incSp => incPair .sp
  | .incAtHl => inc8 .atHl
  | .decAtHl => dec8 .atHl
  | .scf => scf
  | .addHlSp => addHl .sp
  | .ldAAtHlDec => ldAAtHlDec
  | .decSp => decPair .sp
  | .incA => inc8 (.reg .a)
  | .decA => dec8 (.reg .a)
  | .ccf => ccf
  | .ldBB => ldReg .b .b
  | .ldBC => ldReg .b .c
  | .ldBD => ldReg .b .d
  | .ldBE => ldReg .b .e
  | .ldBH => ldReg .b .h
  | .ldBL => ldReg .b .l
  | .ldBAtHl => ldRegAtHl .b
  | .ldBA => ldReg .b .a
  | .ldCB => ldReg .c .b
  | .ldCC => ldReg .c .c
  | .ldCD => ldReg .c .d
  | .ldCE => ldReg .c .e
  | .ldCH => ldReg .c .h
  | .ldCL => ldReg .c .l
  | .ldCAtHl => ldRegAtHl .c
  | .ldCA => ldReg .c .a
  | .ldDB => ldReg .d .b
  | .ldDC => ldReg .d .c
  | .ldDD => ldReg .d .d
  | .ldDE => ldReg .d .e
  | .ldDH => ldReg .d .h
  | .ldDL => ldReg .d .l
  | .ldDAtHl => ldRegAtHl .d
  | .ldDA => ldReg .d .a
  | .ldEB => ldReg .e .b
  | .ldEC => ldReg .e .c
  | .ldED => ldReg .e .d
  | .ldEE => ldReg .e .e
  | .ldEH => ldReg .e .h
  | .ldEL => ldReg .e .l
  | .ldEAtHl => ldRegAtHl .e
  | .ldEA => ldReg .e .a
  | .ldHB => ldReg .h .b
  | .ldHC => ldReg .h .c
  | .ldHD => ldReg .h .d
  | .ldHE => ldReg .h .e
  | .ldHH => ldReg .h .h
  | .ldHL => ldReg .h .l
  | .ldHAtHl => ldRegAtHl .h
  | .ldHA => ldReg .h .a
  | .ldLB => ldReg .l .b
  | .ldLC => ldReg .l .c
  | .ldLD => ldReg .l .d
  | .ldLE => ldReg .l .e
  | .ldLH => ldReg .l .h
  | .ldLL => ldReg .l .l
  | .ldLAtHl => ldRegAtHl .l
  | .ldLA => ldReg .l .a
  | .ldAtHlB => ldAtHlReg .b
  | .ldAtHlC => ldAtHlReg .c
  | .ldAtHlD => ldAtHlReg .d
  | .ldAtHlE => ldAtHlReg .e
  | .ldAtHlH => ldAtHlReg .h
  | .ldAtHlL => ldAtHlReg .l
  | .halt => halt
  | .ldAtHlA => ldAtHlReg .a
  | .ldAB => ldReg .a .b
  | .ldAC => ldReg .a .c
  | .ldAD => ldReg .a .d
  | .ldAE => ldReg .a .e
  | .ldAH => ldReg .a .h
  | .ldAL => ldReg .a .l
  | .ldAAtHl => ldRegAtHl .a
  | .ldAA => ldReg .a .a
  | .addAB => alu .add (.operand (.reg .b))
  | .addAC => alu .add (.operand (.reg .c))
  | .addAD => alu .add (.operand (.reg .d))
  | .addAE => alu .add (.operand (.reg .e))
  | .addAH => alu .add (.operand (.reg .h))
  | .addAL => alu .add (.operand (.reg .l))
  | .addAAtHl => alu .add (.operand .atHl)
  | .addAA => alu .add (.operand (.reg .a))
  | .adcAB => alu .adc (.operand (.reg .b))
  | .adcAC => alu .adc (.operand (.reg .c))
  | .adcAD => alu .adc (.operand (.reg .d))
  | .adcAE => alu .adc (.operand (.reg .e))
  | .adcAH => alu .adc (.operand (.reg .h))
  | .adcAL => alu .adc (.operand (.reg .l))
  | .adcAAtHl => alu .adc (.operand .atHl)
  | .adcAA => alu .adc (.operand (.reg .a))
  | .subB => alu .sub (.operand (.reg .b))
  | .subC => alu .sub (.operand (.reg .c))
  | .subD => alu .sub (.operand (.reg .d))
  | .subE => alu .sub (.operand (.reg .e))
  | .subH => alu .sub (.operand (.reg .h))
  | .subL => alu .sub (.operand (.reg .l))
  | .subAtHl => alu .sub (.operand .atHl)
  | .subA => alu .sub (.operand (.reg .a))
  | .sbcAB => alu .sbc (.operand (.reg .b))
  | .sbcAC => alu .sbc (.operand (.reg .c))
  | .sbcAD => alu .sbc (.operand (.reg .d))
  | .sbcAE => alu .sbc (.operand (.reg .e))
  | .sbcAH => alu .sbc (.operand (.reg .h))
  | .sbcAL => alu .sbc (.operand (.reg .l))
  | .sbcAAtHl => alu .sbc (.operand .atHl)
  | .sbcAA => alu .sbc (.operand (.reg .a))
  | .andB => alu .and (.operand (.reg .b))
  | .andC => alu .and (.operand (.reg .c))
  | .andD => alu .and (.operand (.reg .d))
  | .andE => alu .and (.operand (.reg .e))
  | .andH => alu .and (.operand (.reg .h))
  | .andL => alu .and (.operand (.reg .l))
  | .andAtHl => alu .and (.operand .atHl)
  | .andA => alu .and (.operand (.reg .a))
  | .xorB => alu .xor (.operand (.reg .b))
  | .xorC => alu .xor (.operand (.reg .c))
  | .xorD => alu .xor (.operand (.reg .d))
  | .xorE => alu .xor (.operand (.reg .e))
  | .xorH => alu .xor (.operand (.reg .h))
  | .xorL => alu .xor (.operand (.reg .l))
  | .xorAtHl => alu .xor (.operand .atHl)
  | .xorA => alu .xor (.operand (.reg .a))
  | .orB => alu .or (.operand (.reg .b))
  | .orC => alu .or (.operand (.reg .c))
  | .orD => alu .or (.operand (.reg .d))
  | .orE => alu .or (.operand (.reg .e))
  | .orH => alu .or (.operand (.reg .h))
  | .orL => alu .or (.operand (.reg .l))
  | .orAtHl => alu .or (.operand .atHl)
  | .orA => alu .or (.operand (.reg .a))
  | .cpB => alu .cp (.operand (.reg .b))
  | .cpC => alu .cp (.operand (.reg .c))
  | .cpD => alu .cp (.operand (.reg .d))
  | .cpE => alu .cp (.operand (.reg .e))
  | .cpH => alu .cp (.operand (.reg .h))
  | .cpL => alu .cp (.operand (.reg .l))
  | .cpAtHl => alu .cp (.operand .atHl)
  | .cpA => alu .cp (.operand (.reg .a))
  | .retNz => retCond .nz
  | .popBc => pop .bc
  | .pushBc => push .bc
  | .rst00 => rst 0
  | .retZ => retCond .z
  | .ret => ret
  | .rst08 => rst 1
  | .retNc => retCond .nc
  | .popDe => pop .de
  | .illegalD3 => illegal .d3
  | .pushDe => push .de
  | .rst10 => rst 2
  | .retC => retCond .c
  | .reti => reti
  | .illegalDB => illegal .db
  | .illegalDD => illegal .dd
  | .rst18 => rst 3
  | .popHl => pop .hl
  | .ldAtCA => ldAtCA
  | .illegalE3 => illegal .e3
  | .illegalE4 => illegal .e4
  | .pushHl => push .hl
  | .rst20 => rst 4
  | .jpHl => jpHl
  | .illegalEB => illegal .eb
  | .illegalEC => illegal .ec
  | .illegalED => illegal .ed
  | .rst28 => rst 5
  | .popAf => pop .af
  | .ldAAtC => ldAAtC
  | .di => di
  | .illegalF4 => illegal .f4
  | .pushAf => push .af
  | .rst30 => rst 6
  | .ldSpHl => ldSpHl
  | .ei => ei
  | .illegalFC => illegal .fc
  | .illegalFD => illegal .fd
  | .rst38 => rst 7
  | .rlcB => rot .rlc (.reg .b)
  | .rlcC => rot .rlc (.reg .c)
  | .rlcD => rot .rlc (.reg .d)
  | .rlcE => rot .rlc (.reg .e)
  | .rlcH => rot .rlc (.reg .h)
  | .rlcL => rot .rlc (.reg .l)
  | .rlcAtHl => rot .rlc .atHl
  | .rlcA => rot .rlc (.reg .a)
  | .rrcB => rot .rrc (.reg .b)
  | .rrcC => rot .rrc (.reg .c)
  | .rrcD => rot .rrc (.reg .d)
  | .rrcE => rot .rrc (.reg .e)
  | .rrcH => rot .rrc (.reg .h)
  | .rrcL => rot .rrc (.reg .l)
  | .rrcAtHl => rot .rrc .atHl
  | .rrcA => rot .rrc (.reg .a)
  | .rlB => rot .rl (.reg .b)
  | .rlC => rot .rl (.reg .c)
  | .rlD => rot .rl (.reg .d)
  | .rlE => rot .rl (.reg .e)
  | .rlH => rot .rl (.reg .h)
  | .rlL => rot .rl (.reg .l)
  | .rlAtHl => rot .rl .atHl
  | .rlA => rot .rl (.reg .a)
  | .rrB => rot .rr (.reg .b)
  | .rrC => rot .rr (.reg .c)
  | .rrD => rot .rr (.reg .d)
  | .rrE => rot .rr (.reg .e)
  | .rrH => rot .rr (.reg .h)
  | .rrL => rot .rr (.reg .l)
  | .rrAtHl => rot .rr .atHl
  | .rrA => rot .rr (.reg .a)
  | .slaB => rot .sla (.reg .b)
  | .slaC => rot .sla (.reg .c)
  | .slaD => rot .sla (.reg .d)
  | .slaE => rot .sla (.reg .e)
  | .slaH => rot .sla (.reg .h)
  | .slaL => rot .sla (.reg .l)
  | .slaAtHl => rot .sla .atHl
  | .slaA => rot .sla (.reg .a)
  | .sraB => rot .sra (.reg .b)
  | .sraC => rot .sra (.reg .c)
  | .sraD => rot .sra (.reg .d)
  | .sraE => rot .sra (.reg .e)
  | .sraH => rot .sra (.reg .h)
  | .sraL => rot .sra (.reg .l)
  | .sraAtHl => rot .sra .atHl
  | .sraA => rot .sra (.reg .a)
  | .swapB => rot .swap (.reg .b)
  | .swapC => rot .swap (.reg .c)
  | .swapD => rot .swap (.reg .d)
  | .swapE => rot .swap (.reg .e)
  | .swapH => rot .swap (.reg .h)
  | .swapL => rot .swap (.reg .l)
  | .swapAtHl => rot .swap .atHl
  | .swapA => rot .swap (.reg .a)
  | .srlB => rot .srl (.reg .b)
  | .srlC => rot .srl (.reg .c)
  | .srlD => rot .srl (.reg .d)
  | .srlE => rot .srl (.reg .e)
  | .srlH => rot .srl (.reg .h)
  | .srlL => rot .srl (.reg .l)
  | .srlAtHl => rot .srl .atHl
  | .srlA => rot .srl (.reg .a)
  | .bit0B => bitTest 0 (.reg .b)
  | .bit0C => bitTest 0 (.reg .c)
  | .bit0D => bitTest 0 (.reg .d)
  | .bit0E => bitTest 0 (.reg .e)
  | .bit0H => bitTest 0 (.reg .h)
  | .bit0L => bitTest 0 (.reg .l)
  | .bit0AtHl => bitTest 0 .atHl
  | .bit0A => bitTest 0 (.reg .a)
  | .bit1B => bitTest 1 (.reg .b)
  | .bit1C => bitTest 1 (.reg .c)
  | .bit1D => bitTest 1 (.reg .d)
  | .bit1E => bitTest 1 (.reg .e)
  | .bit1H => bitTest 1 (.reg .h)
  | .bit1L => bitTest 1 (.reg .l)
  | .bit1AtHl => bitTest 1 .atHl
  | .bit1A => bitTest 1 (.reg .a)
  | .bit2B => bitTest 2 (.reg .b)
  | .bit2C => bitTest 2 (.reg .c)
  | .bit2D => bitTest 2 (.reg .d)
  | .bit2E => bitTest 2 (.reg .e)
  | .bit2H => bitTest 2 (.reg .h)
  | .bit2L => bitTest 2 (.reg .l)
  | .bit2AtHl => bitTest 2 .atHl
  | .bit2A => bitTest 2 (.reg .a)
  | .bit3B => bitTest 3 (.reg .b)
  | .bit3C => bitTest 3 (.reg .c)
  | .bit3D => bitTest 3 (.reg .d)
  | .bit3E => bitTest 3 (.reg .e)
  | .bit3H => bitTest 3 (.reg .h)
  | .bit3L => bitTest 3 (.reg .l)
  | .bit3AtHl => bitTest 3 .atHl
  | .bit3A => bitTest 3 (.reg .a)
  | .bit4B => bitTest 4 (.reg .b)
  | .bit4C => bitTest 4 (.reg .c)
  | .bit4D => bitTest 4 (.reg .d)
  | .bit4E => bitTest 4 (.reg .e)
  | .bit4H => bitTest 4 (.reg .h)
  | .bit4L => bitTest 4 (.reg .l)
  | .bit4AtHl => bitTest 4 .atHl
  | .bit4A => bitTest 4 (.reg .a)
  | .bit5B => bitTest 5 (.reg .b)
  | .bit5C => bitTest 5 (.reg .c)
  | .bit5D => bitTest 5 (.reg .d)
  | .bit5E => bitTest 5 (.reg .e)
  | .bit5H => bitTest 5 (.reg .h)
  | .bit5L => bitTest 5 (.reg .l)
  | .bit5AtHl => bitTest 5 .atHl
  | .bit5A => bitTest 5 (.reg .a)
  | .bit6B => bitTest 6 (.reg .b)
  | .bit6C => bitTest 6 (.reg .c)
  | .bit6D => bitTest 6 (.reg .d)
  | .bit6E => bitTest 6 (.reg .e)
  | .bit6H => bitTest 6 (.reg .h)
  | .bit6L => bitTest 6 (.reg .l)
  | .bit6AtHl => bitTest 6 .atHl
  | .bit6A => bitTest 6 (.reg .a)
  | .bit7B => bitTest 7 (.reg .b)
  | .bit7C => bitTest 7 (.reg .c)
  | .bit7D => bitTest 7 (.reg .d)
  | .bit7E => bitTest 7 (.reg .e)
  | .bit7H => bitTest 7 (.reg .h)
  | .bit7L => bitTest 7 (.reg .l)
  | .bit7AtHl => bitTest 7 .atHl
  | .bit7A => bitTest 7 (.reg .a)
  | .res0B => bitRes 0 (.reg .b)
  | .res0C => bitRes 0 (.reg .c)
  | .res0D => bitRes 0 (.reg .d)
  | .res0E => bitRes 0 (.reg .e)
  | .res0H => bitRes 0 (.reg .h)
  | .res0L => bitRes 0 (.reg .l)
  | .res0AtHl => bitRes 0 .atHl
  | .res0A => bitRes 0 (.reg .a)
  | .res1B => bitRes 1 (.reg .b)
  | .res1C => bitRes 1 (.reg .c)
  | .res1D => bitRes 1 (.reg .d)
  | .res1E => bitRes 1 (.reg .e)
  | .res1H => bitRes 1 (.reg .h)
  | .res1L => bitRes 1 (.reg .l)
  | .res1AtHl => bitRes 1 .atHl
  | .res1A => bitRes 1 (.reg .a)
  | .res2B => bitRes 2 (.reg .b)
  | .res2C => bitRes 2 (.reg .c)
  | .res2D => bitRes 2 (.reg .d)
  | .res2E => bitRes 2 (.reg .e)
  | .res2H => bitRes 2 (.reg .h)
  | .res2L => bitRes 2 (.reg .l)
  | .res2AtHl => bitRes 2 .atHl
  | .res2A => bitRes 2 (.reg .a)
  | .res3B => bitRes 3 (.reg .b)
  | .res3C => bitRes 3 (.reg .c)
  | .res3D => bitRes 3 (.reg .d)
  | .res3E => bitRes 3 (.reg .e)
  | .res3H => bitRes 3 (.reg .h)
  | .res3L => bitRes 3 (.reg .l)
  | .res3AtHl => bitRes 3 .atHl
  | .res3A => bitRes 3 (.reg .a)
  | .res4B => bitRes 4 (.reg .b)
  | .res4C => bitRes 4 (.reg .c)
  | .res4D => bitRes 4 (.reg .d)
  | .res4E => bitRes 4 (.reg .e)
  | .res4H => bitRes 4 (.reg .h)
  | .res4L => bitRes 4 (.reg .l)
  | .res4AtHl => bitRes 4 .atHl
  | .res4A => bitRes 4 (.reg .a)
  | .res5B => bitRes 5 (.reg .b)
  | .res5C => bitRes 5 (.reg .c)
  | .res5D => bitRes 5 (.reg .d)
  | .res5E => bitRes 5 (.reg .e)
  | .res5H => bitRes 5 (.reg .h)
  | .res5L => bitRes 5 (.reg .l)
  | .res5AtHl => bitRes 5 .atHl
  | .res5A => bitRes 5 (.reg .a)
  | .res6B => bitRes 6 (.reg .b)
  | .res6C => bitRes 6 (.reg .c)
  | .res6D => bitRes 6 (.reg .d)
  | .res6E => bitRes 6 (.reg .e)
  | .res6H => bitRes 6 (.reg .h)
  | .res6L => bitRes 6 (.reg .l)
  | .res6AtHl => bitRes 6 .atHl
  | .res6A => bitRes 6 (.reg .a)
  | .res7B => bitRes 7 (.reg .b)
  | .res7C => bitRes 7 (.reg .c)
  | .res7D => bitRes 7 (.reg .d)
  | .res7E => bitRes 7 (.reg .e)
  | .res7H => bitRes 7 (.reg .h)
  | .res7L => bitRes 7 (.reg .l)
  | .res7AtHl => bitRes 7 .atHl
  | .res7A => bitRes 7 (.reg .a)
  | .set0B => bitSet 0 (.reg .b)
  | .set0C => bitSet 0 (.reg .c)
  | .set0D => bitSet 0 (.reg .d)
  | .set0E => bitSet 0 (.reg .e)
  | .set0H => bitSet 0 (.reg .h)
  | .set0L => bitSet 0 (.reg .l)
  | .set0AtHl => bitSet 0 .atHl
  | .set0A => bitSet 0 (.reg .a)
  | .set1B => bitSet 1 (.reg .b)
  | .set1C => bitSet 1 (.reg .c)
  | .set1D => bitSet 1 (.reg .d)
  | .set1E => bitSet 1 (.reg .e)
  | .set1H => bitSet 1 (.reg .h)
  | .set1L => bitSet 1 (.reg .l)
  | .set1AtHl => bitSet 1 .atHl
  | .set1A => bitSet 1 (.reg .a)
  | .set2B => bitSet 2 (.reg .b)
  | .set2C => bitSet 2 (.reg .c)
  | .set2D => bitSet 2 (.reg .d)
  | .set2E => bitSet 2 (.reg .e)
  | .set2H => bitSet 2 (.reg .h)
  | .set2L => bitSet 2 (.reg .l)
  | .set2AtHl => bitSet 2 .atHl
  | .set2A => bitSet 2 (.reg .a)
  | .set3B => bitSet 3 (.reg .b)
  | .set3C => bitSet 3 (.reg .c)
  | .set3D => bitSet 3 (.reg .d)
  | .set3E => bitSet 3 (.reg .e)
  | .set3H => bitSet 3 (.reg .h)
  | .set3L => bitSet 3 (.reg .l)
  | .set3AtHl => bitSet 3 .atHl
  | .set3A => bitSet 3 (.reg .a)
  | .set4B => bitSet 4 (.reg .b)
  | .set4C => bitSet 4 (.reg .c)
  | .set4D => bitSet 4 (.reg .d)
  | .set4E => bitSet 4 (.reg .e)
  | .set4H => bitSet 4 (.reg .h)
  | .set4L => bitSet 4 (.reg .l)
  | .set4AtHl => bitSet 4 .atHl
  | .set4A => bitSet 4 (.reg .a)
  | .set5B => bitSet 5 (.reg .b)
  | .set5C => bitSet 5 (.reg .c)
  | .set5D => bitSet 5 (.reg .d)
  | .set5E => bitSet 5 (.reg .e)
  | .set5H => bitSet 5 (.reg .h)
  | .set5L => bitSet 5 (.reg .l)
  | .set5AtHl => bitSet 5 .atHl
  | .set5A => bitSet 5 (.reg .a)
  | .set6B => bitSet 6 (.reg .b)
  | .set6C => bitSet 6 (.reg .c)
  | .set6D => bitSet 6 (.reg .d)
  | .set6E => bitSet 6 (.reg .e)
  | .set6H => bitSet 6 (.reg .h)
  | .set6L => bitSet 6 (.reg .l)
  | .set6AtHl => bitSet 6 .atHl
  | .set6A => bitSet 6 (.reg .a)
  | .set7B => bitSet 7 (.reg .b)
  | .set7C => bitSet 7 (.reg .c)
  | .set7D => bitSet 7 (.reg .d)
  | .set7E => bitSet 7 (.reg .e)
  | .set7H => bitSet 7 (.reg .h)
  | .set7L => bitSet 7 (.reg .l)
  | .set7AtHl => bitSet 7 .atHl
  | .set7A => bitSet 7 (.reg .a)

namespace Machine

theorem exec_ldReg (dst src : R8) (s : State) :
    exec (.ldReg dst src) s = finish (Instr.ldReg dst src).slot (ldReg dst src s) := by
  cases dst <;> cases src <;> rfl

theorem exec_ldRegImm (dst : R8) (n : Byte) (s : State) :
    exec (.ldRegImm dst n) s = finish (Instr.ldRegImm dst n).slot (s.setReg dst n) := by
  cases dst <;> rfl

theorem exec_ldRegAtHl (dst : R8) (s : State) :
    exec (.ldRegAtHl dst) s = finish (Instr.ldRegAtHl dst).slot (ldRegFrom dst s.hl s) := by
  cases dst <;> rfl

theorem exec_ldAtHlReg (src : R8) (s : State) :
    exec (.ldAtHlReg src) s = finish (Instr.ldAtHlReg src).slot (s.memWrite s.hl (s.reg src)) := by
  cases src <;> rfl

theorem exec_ldPair (p : R16) (n : Word) (s : State) :
    exec (.ldPair p n) s = finish (Instr.ldPair p n).slot (s.setPair p n) := by
  cases p <;> rfl

theorem exec_push (p : R16Stk) (s : State) :
    exec (.push p) s = finish (Instr.push p).slot (s.push16 (s.stkPair p)) := by
  cases p <;> rfl

theorem exec_pop (p : R16Stk) (s : State) :
    exec (.pop p) s = finish (Instr.pop p).slot (popPair p s) := by
  cases p <;> rfl

theorem exec_alu (op : AluOp) (src : AluSrc) (s : State) :
    exec (.alu op src) s = finish (Instr.alu op src).slot (aluStep op src s) := by
  rcases src with (_ | _) | _ <;> cases op <;> first | rfl | (rename_i r; cases r <;> rfl)

theorem exec_inc8 (o : Operand8) (s : State) :
    exec (.inc8 o) s = finish (Instr.inc8 o).slot (incOperand o s) := by
  rcases o with (_ | _) <;> first | rfl | (rename_i r; cases r <;> rfl)

theorem exec_dec8 (o : Operand8) (s : State) :
    exec (.dec8 o) s = finish (Instr.dec8 o).slot (decOperand o s) := by
  rcases o with (_ | _) <;> first | rfl | (rename_i r; cases r <;> rfl)

theorem exec_addHl (p : R16) (s : State) :
    exec (.addHl p) s = finish (Instr.addHl p).slot (addHlStep p s) := by
  cases p <;> rfl

theorem exec_incPair (p : R16) (s : State) :
    exec (.incPair p) s = finish (Instr.incPair p).slot (s.setPair p (s.pair p + 1)) := by
  cases p <;> rfl

theorem exec_decPair (p : R16) (s : State) :
    exec (.decPair p) s = finish (Instr.decPair p).slot (s.setPair p (s.pair p - 1)) := by
  cases p <;> rfl

theorem exec_rot (op : RotOp) (o : Operand8) (s : State) :
    exec (.rot op o) s = finish (Instr.rot op o).slot (rotStep op o s) := by
  rcases o with (_ | _) <;> cases op <;> first | rfl | (rename_i r; cases r <;> rfl)

theorem exec_bitTest (n : Fin 8) (o : Operand8) (s : State) :
    exec (.bitTest n o) s = finish (Instr.bitTest n o).slot (bitTestStep n o s) := by
  match n with
  | 0 | 1 | 2 | 3 | 4 | 5 | 6 | 7 => rcases o with (_ | _) <;> first | rfl | (rename_i r; cases r <;> rfl)

theorem exec_bitRes (n : Fin 8) (o : Operand8) (s : State) :
    exec (.bitRes n o) s = finish (Instr.bitRes n o).slot (bitResStep n o s) := by
  match n with
  | 0 | 1 | 2 | 3 | 4 | 5 | 6 | 7 => rcases o with (_ | _) <;> first | rfl | (rename_i r; cases r <;> rfl)

theorem exec_bitSet (n : Fin 8) (o : Operand8) (s : State) :
    exec (.bitSet n o) s = finish (Instr.bitSet n o).slot (bitSetStep n o s) := by
  match n with
  | 0 | 1 | 2 | 3 | 4 | 5 | 6 | 7 => rcases o with (_ | _) <;> first | rfl | (rename_i r; cases r <;> rfl)

theorem exec_jpCond (cc : Cond) (n : Word) (s : State) :
    exec (.jpCond cc n) s = jumpIf cc n (Instr.jpCond cc n).slot s := by
  cases cc <;> rfl

theorem exec_jrCond (cc : Cond) (e : Byte) (s : State) :
    exec (.jrCond cc e) s = jumpIf cc (s.relTarget e) (Instr.jrCond cc e).slot s := by
  cases cc <;> rfl

theorem exec_callCond (cc : Cond) (n : Word) (s : State) :
    exec (.callCond cc n) s = callIf cc n (Instr.callCond cc n).slot s := by
  cases cc <;> rfl

theorem exec_retCond (cc : Cond) (s : State) :
    exec (.retCond cc) s = returnIf cc (Instr.retCond cc).slot s := by
  cases cc <;> rfl

theorem exec_rst (y : Fin 8) (s : State) :
    exec (.rst y) s = finish (Instr.rst y).slot (callTo (BitVec.ofNat 16 (8 * y.val)) s) := by
  match y with
  | 0 | 1 | 2 | 3 | 4 | 5 | 6 | 7 => rfl

theorem exec_illegal (k : IllegalSlot) (s : State) :
    exec (.illegal k) s = raiseUnknownOpcode k.opcode s := by
  cases k <;> rfl

theorem exec_nop (s : State) : exec .nop s = finish Instr.nop.slot s := rfl

theorem exec_ldAtBcA (s : State) : exec .ldAtBcA s = finish Instr.ldAtBcA.slot (s.memWrite s.bc s.a) := rfl

theorem exec_rlca (s : State) : exec .rlca s = finish Instr.rlca.slot (rotAccStep .rlc s) := rfl

theorem exec_ldAtA16Sp (n : Word) (s : State) :
    exec (.ldAtA16Sp n) s = finish (Instr.ldAtA16Sp n).slot (s.memWrite16 n s.sp) := rfl

theorem exec_ldAAtBc (s : State) : exec .ldAAtBc s = finish Instr.ldAAtBc.slot (ldRegFrom .a s.bc s) := rfl

theorem exec_rrca (s : State) : exec .rrca s = finish Instr.rrca.slot (rotAccStep .rrc s) := rfl

theorem exec_stop (pad : Byte) (s : State) :
    exec (.stop pad) s = finish (Instr.stop pad).slot { s with power := .stopped } := rfl

theorem exec_ldAtDeA (s : State) : exec .ldAtDeA s = finish Instr.ldAtDeA.slot (s.memWrite s.de s.a) := rfl

theorem exec_rla (s : State) : exec .rla s = finish Instr.rla.slot (rotAccStep .rl s) := rfl

theorem exec_jrE8 (e : Byte) (s : State) :
    exec (.jrE8 e) s = finish (Instr.jrE8 e).slot (s.jump (s.relTarget e)) := rfl

theorem exec_ldAAtDe (s : State) : exec .ldAAtDe s = finish Instr.ldAAtDe.slot (ldRegFrom .a s.de s) := rfl

theorem exec_rra (s : State) : exec .rra s = finish Instr.rra.slot (rotAccStep .rr s) := rfl

theorem exec_ldAtHlIncA (s : State) : exec .ldAtHlIncA s = finish Instr.ldAtHlIncA.slot (storeAThenHl (s.hl + 1) s) := rfl

theorem exec_daa (s : State) : exec .daa s = finish Instr.daa.slot (daaStep s) := rfl

theorem exec_ldAAtHlInc (s : State) : exec .ldAAtHlInc s = finish Instr.ldAAtHlInc.slot (loadAThenHl (s.hl + 1) s) := rfl

theorem exec_cpl (s : State) : exec .cpl s = finish Instr.cpl.slot (cplStep s) := rfl

theorem exec_ldAtHlDecA (s : State) : exec .ldAtHlDecA s = finish Instr.ldAtHlDecA.slot (storeAThenHl (s.hl - 1) s) := rfl

theorem exec_ldAtHlD8 (n : Byte) (s : State) :
    exec (.ldAtHlD8 n) s = finish (Instr.ldAtHlD8 n).slot (s.memWrite s.hl n) := rfl

theorem exec_scf (s : State) : exec .scf s = finish Instr.scf.slot (s.setFlags s.flagZ false false true) := rfl

theorem exec_ldAAtHlDec (s : State) : exec .ldAAtHlDec s = finish Instr.ldAAtHlDec.slot (loadAThenHl (s.hl - 1) s) := rfl

theorem exec_ccf (s : State) : exec .ccf s = finish Instr.ccf.slot (s.setFlags s.flagZ false false (!s.flagC)) := rfl

theorem exec_halt (s : State) : exec .halt s = finish Instr.halt.slot { s with power := .halted } := rfl

theorem exec_jpA16 (n : Word) (s : State) :
    exec (.jpA16 n) s = finish (Instr.jpA16 n).slot (s.jump n) := rfl

theorem exec_ret (s : State) : exec .ret s = finish Instr.ret.slot (returnStep s) := rfl

theorem exec_prefixCb (op2 : Byte) (s : State) :
    exec (.prefixCb op2) s = runSecondary op2 s := rfl

theorem exec_callA16 (n : Word) (s : State) :
    exec (.callA16 n) s = finish (Instr.callA16 n).slot (callTo n s) := rfl

theorem exec_reti (s : State) : exec .reti s = finish Instr.reti.slot (s.returnFromInterrupt) := rfl

theorem exec_ldhAtA8A (n : Byte) (s : State) :
    exec (.ldhAtA8A n) s = finish (Instr.ldhAtA8A n).slot (s.memWrite (highPage n) s.a) := rfl

theorem exec_ldAtCA (s : State) : exec .ldAtCA s = finish Instr.ldAtCA.slot (s.memWrite (highPage s.c) s.a) := rfl

theorem exec_addSpE8 (e : Byte) (s : State) :
    exec (.addSpE8 e) s = finish (Instr.addSpE8 e).slot (spPlusInto .sp e s) := rfl

theorem exec_jpHl (s : State) : exec .jpHl s = finish Instr.jpHl.slot (s.jump s.hl) := rfl

theorem exec_ldAtA16A (n : Word) (s : State) :
    exec (.ldAtA16A n) s = finish (Instr.ldAtA16A n).slot (s.memWrite n s.a) := rfl

theorem exec_ldhAAtA8 (n : Byte) (s : State) :
    exec (.ldhAAtA8 n) s = finish (Instr.ldhAAtA8 n).slot (ldRegFrom .a (highPage n) s) := rfl

theorem exec_ldAAtC (s : State) : exec .ldAAtC s = finish Instr.ldAAtC.slot (ldRegFrom .a (highPage s.c) s) := rfl

theorem exec_di (s : State) : exec .di s = finish Instr.di.slot { s with ime := false, eiDelay := 0 } := rfl

theorem exec_ldHlSpE8 (e : Byte) (s : State) :
    exec (.ldHlSpE8 e) s = finish (Instr.ldHlSpE8 e).slot (spPlusInto .hl e s) := rfl

theorem exec_ldSpHl (s : State) : exec .ldSpHl s = finish Instr.ldSpHl.slot (s.setPair .sp s.hl) := rfl

theorem exec_ldAAtA16 (n : Word) (s : State) :
    exec (.ldAAtA16 n) s = finish (Instr.ldAAtA16 n).slot (ldRegFrom .a n s) := rfl

theorem exec_ei (s : State) : exec .ei s = finish Instr.ei.slot { s with eiDelay := if s.eiDelay = 0 then 2 else s.eiDelay } := rfl

end Machine

end Sys2Proof
end

