-- ==== Sys2Proof/Laws/Ppu.lean ====
section
/-! SUPPORT. Sys2Proof/Laws/Ppu.lean: the laws of the PPU's transitions and of their loop (spec/60_exceptions.md R212,
R213): what a transition takes off the counter, that the fuel does not matter, and what the loop leaves alone. -/

namespace Sys2Proof.Machine

theorem Mode.cases (m : Mode) : m = .oam ∨ m = .xfer ∨ m = .hblank ∨ m = .vblank := by cases m <;> decide

theorem Mode.budget_pos (m : Mode) : 0 < m.budget := by cases m <;> decide

/-! ## The four transitions (R212, R213) -/

theorem State.ppuAdvance_oam {s : State} (h : s.mode = .oam) :
    s.ppuAdvance = { s with counter := s.counter - 80, mode := .xfer } := by
  simp only [State.ppuAdvance, h]

theorem State.ppuAdvance_xfer {s : State} (h : s.mode = .xfer) :
    s.ppuAdvance = { s with
      counter := s.counter - 172, mode := .hblank
      fb := if (s.mem.get 0xFF40).getLsbD 7 then (s.renderLine s.line).fb else s.fb } := by
  by_cases hb : (s.mem.get 0xFF40).getLsbD 7 = true
  · simp only [State.ppuAdvance, h, State.lcdc, hb, if_true, State.renderLine]
  · simp only [State.ppuAdvance, h, State.lcdc, hb, Bool.false_eq_true, if_false]

theorem State.ppuAdvance_hblank {s : State} (h : s.mode = .hblank) :
    s.ppuAdvance = if s.line + 1 = 144 then
        { s with counter := s.counter - 204, line := 144, mode := .vblank, ifReg := s.ifReg ||| 0x01 }
      else { s with counter := s.counter - 204, line := s.line + 1, mode := .oam } := by
  simp only [State.ppuAdvance, h]

theorem State.ppuAdvance_vblank {s : State} (h : s.mode = .vblank) :
    s.ppuAdvance = if s.line + 1 = 154 then { s with counter := s.counter - 456, line := 0, mode := .oam }
      else { s with counter := s.counter - 456, line := s.line + 1 } := by
  simp only [State.ppuAdvance, h]

/-- A transition takes its mode's budget off the counter (R212). -/
@[simp] theorem State.ppuAdvance_counter (s : State) : s.ppuAdvance.counter = s.counter - s.mode.budget := by
  rcases s.mode.cases with h | h | h | h
  · simp only [State.ppuAdvance_oam h, h, Mode.budget]
  · simp only [State.ppuAdvance_xfer h, h, Mode.budget]
  · simp only [State.ppuAdvance_hblank h, h, Mode.budget]; split <;> rfl
  · simp only [State.ppuAdvance_vblank h, h, Mode.budget]; split <;> rfl

/-- The transition itself does not look at the counter, beyond what it takes off it. -/
theorem State.ppuAdvance_withCounter (s : State) (c : Nat) :
    ({ s with counter := c } : State).ppuAdvance = { s.ppuAdvance with counter := c - s.mode.budget } := by
  rcases s.mode.cases with h | h | h | h
  · rw [State.ppuAdvance_oam h, State.ppuAdvance_oam (s := { s with counter := c }) h]
    simp only [h, Mode.budget]
  · rw [State.ppuAdvance_xfer h, State.ppuAdvance_xfer (s := { s with counter := c }) h]
    simp only [h, Mode.budget]; rfl
  · rw [State.ppuAdvance_hblank h, State.ppuAdvance_hblank (s := { s with counter := c }) h]
    simp only [h, Mode.budget]; split <;> rfl
  · rw [State.ppuAdvance_vblank h, State.ppuAdvance_vblank (s := { s with counter := c }) h]
    simp only [h, Mode.budget]; split <;> rfl

/-! ## The loop -/

/-- Fuel at least the counter is enough: more makes no difference (log entry 12). -/
theorem ppuRun_fuel {s : State} {f g : Nat} (hf : s.counter ≤ f) (hg : s.counter ≤ g) : ppuRun f s = ppuRun g s := by
  induction f generalizing s g with
  | zero =>
    have hb := s.mode.budget_pos
    cases g with
    | zero => rfl
    | succ g => simp [ppuRun, show s.counter < s.mode.budget by omega]
  | succ f ih =>
    have hb := s.mode.budget_pos
    cases g with
    | zero => simp [ppuRun, show s.counter < s.mode.budget by omega]
    | succ g =>
      simp only [ppuRun]
      split
      · rfl
      · apply ih <;> simp <;> omega

/-- The loop ends below the budget of its mode (R213). -/
theorem ppuRun_counter_lt {s : State} {f : Nat} (hf : s.counter ≤ f) :
    (ppuRun f s).counter < (ppuRun f s).mode.budget := by
  induction f generalizing s with
  | zero => have := s.mode.budget_pos; simp only [ppuRun]; omega
  | succ f ih =>
    have hb := s.mode.budget_pos
    simp only [ppuRun]
    split
    · assumption
    · apply ih; simp; omega

/-- A property that no transition breaks holds after the loop. -/
theorem ppuRun_keeps {P : State → Prop} (hadvance : ∀ s, P s → s.mode.budget ≤ s.counter → P s.ppuAdvance) (f : Nat)
    {s : State} (h : P s) : P (ppuRun f s) := by
  induction f generalizing s with
  | zero => exact h
  | succ f ih =>
    simp only [ppuRun]
    split
    · exact h
    · exact ih (hadvance s h (by omega))

/-- What the PPU writes is its own state and IF (R33, R215). -/
theorem ppuRun_frame (f : Nat) (s : State) : ∃ mode line counter fb ifReg,
    ppuRun f s = { s with mode := mode, line := line, counter := counter, fb := fb, ifReg := ifReg } := by
  refine ppuRun_keeps (P := fun t => ∃ mode line counter fb ifReg,
    t = { s with mode := mode, line := line, counter := counter, fb := fb, ifReg := ifReg }) ?_ f
    ⟨s.mode, s.line, s.counter, s.fb, s.ifReg, rfl⟩
  rintro _ ⟨mode, line, counter, fb, ifReg, rfl⟩ _
  unfold State.ppuAdvance
  split <;> (try split) <;> exact ⟨_, _, _, _, _, rfl⟩

/-- The PPU step writes the PPU's state and IF only (R33, R215). -/
theorem State.ppuStep_frame (s : State) (n : Nat) : ∃ mode line counter fb ifReg,
    s.ppuStep n = { s with mode := mode, line := line, counter := counter, fb := fb, ifReg := ifReg } := by
  obtain ⟨mode, line, counter, fb, ifReg, h⟩ := ppuRun_frame (s.counter + n) { s with counter := s.counter + n }
  exact ⟨mode, line, counter, fb, ifReg, h⟩

@[simp] theorem State.ppuStep_mem (s : State) (n : Nat) : (s.ppuStep n).mem = s.mem := by
  obtain ⟨_, _, _, _, _, h⟩ := s.ppuStep_frame n; rw [h]

@[simp] theorem State.ppuStep_f (s : State) (n : Nat) : (s.ppuStep n).f = s.f := by
  obtain ⟨_, _, _, _, _, h⟩ := s.ppuStep_frame n; rw [h]

@[simp] theorem State.ppuStep_pc (s : State) (n : Nat) : (s.ppuStep n).pc = s.pc := by
  obtain ⟨_, _, _, _, _, h⟩ := s.ppuStep_frame n; rw [h]

@[simp] theorem State.ppuStep_ime (s : State) (n : Nat) : (s.ppuStep n).ime = s.ime := by
  obtain ⟨_, _, _, _, _, h⟩ := s.ppuStep_frame n; rw [h]

@[simp] theorem State.ppuStep_eiDelay (s : State) (n : Nat) : (s.ppuStep n).eiDelay = s.eiDelay := by
  obtain ⟨_, _, _, _, _, h⟩ := s.ppuStep_frame n; rw [h]

@[simp] theorem State.ppuStep_power (s : State) (n : Nat) : (s.ppuStep n).power = s.power := by
  obtain ⟨_, _, _, _, _, h⟩ := s.ppuStep_frame n; rw [h]

@[simp] theorem State.ppuStep_faultRec (s : State) (n : Nat) : (s.ppuStep n).faultRec = s.faultRec := by
  obtain ⟨_, _, _, _, _, h⟩ := s.ppuStep_frame n; rw [h]

@[simp] theorem State.ppuStep_inputs (s : State) (n : Nat) : (s.ppuStep n).inputs = s.inputs := by
  obtain ⟨_, _, _, _, _, h⟩ := s.ppuStep_frame n; rw [h]

@[simp] theorem State.ppuStep_cycles (s : State) (n : Nat) : (s.ppuStep n).cycles = s.cycles := by
  obtain ⟨_, _, _, _, _, h⟩ := s.ppuStep_frame n; rw [h]

@[simp] theorem State.ppuStep_timing (s : State) (n : Nat) : (s.ppuStep n).timing = s.timing := by
  obtain ⟨_, _, _, _, _, h⟩ := s.ppuStep_frame n; rw [h]

/-- The PPU step reads and writes the PPU's state; with the counter given, it is the loop with enough fuel. -/
theorem State.ppuStep_eq_run (s : State) {n f : Nat} (hf : s.counter + n ≤ f) :
    s.ppuStep n = ppuRun f { s with counter := s.counter + n } := ppuRun_fuel (Nat.le_refl _) hf

end Sys2Proof.Machine
end

