-- ==== Sys2Proof/Laws/Registers.lean ====
section
/-! SUPPORT. Sys2Proof/Laws/Registers.lean: reading a register, a pair or the flags after writing one (spec/10_state.md
R14 to R17), and the frame of a form that stores nothing. -/

namespace Sys2Proof.Machine

/-! ## Bytes and words -/

theorem wordOf_toNat (lo hi : Byte) : (wordOf lo hi).toNat = hi.toNat * 256 + lo.toNat := by
  simp only [wordOf, BitVec.toNat_append]
  rw [← Nat.shiftLeft_add_eq_or_of_lt lo.isLt, Nat.shiftLeft_eq]

theorem loByte_toNat (w : Word) : (loByte w).toNat = w.toNat % 256 := by simp [loByte]

theorem hiByte_toNat (w : Word) : (hiByte w).toNat = w.toNat / 256 := by
  have := w.isLt
  simp [hiByte, Nat.shiftRight_eq_div_pow]
  omega

@[simp] theorem loByte_wordOf (lo hi : Byte) : loByte (wordOf lo hi) = lo := by
  apply BitVec.eq_of_toNat_eq
  have := lo.isLt
  rw [loByte_toNat, wordOf_toNat]; omega

@[simp] theorem hiByte_wordOf (lo hi : Byte) : hiByte (wordOf lo hi) = hi := by
  apply BitVec.eq_of_toNat_eq
  have := lo.isLt
  rw [hiByte_toNat, wordOf_toNat]; omega

@[simp] theorem wordOf_lo_hi (w : Word) : wordOf (loByte w) (hiByte w) = w := by
  apply BitVec.eq_of_toNat_eq
  rw [wordOf_toNat, loByte_toNat, hiByte_toNat]; omega

theorem loByte_eq (w : Word) : loByte w = BitVec.ofNat 8 w.toNat := by
  apply BitVec.eq_of_toNat_eq; simp [loByte]

theorem hiByte_eq (w : Word) : hiByte w = BitVec.ofNat 8 (w.toNat / 256) := by
  apply BitVec.eq_of_toNat_eq; simp [hiByte, Nat.shiftRight_eq_div_pow]

/-! ## Registers -/

@[simp] theorem State.reg_setReg (s : State) (r q : R8) (v : Byte) :
    (s.setReg r v).reg q = if q = r then v else s.reg q := by
  cases r <;> cases q <;> rfl

/-- A pair read after a pair write: the value at the pair written, every other pair as before. -/
@[simp] theorem State.pair_setPair (s : State) (p q : R16) (v : Word) :
    (s.setPair p v).pair q = if q = p then v else s.pair q := by
  cases p <;> cases q <;>
    simp [State.pair, State.setPair, State.setHl, State.bc, State.de, State.hl]

@[simp] theorem State.hl_setHl (s : State) (v : Word) : (s.setHl v).hl = v := by simp [State.setHl, State.hl]

/-- A write to HL leaves every register but H and L. -/
theorem State.setHl_reg (s : State) (v : Word) {r : R8} (hh : r ≠ .h) (hl : r ≠ .l) : (s.setHl v).reg r = s.reg r := by
  cases r <;> first | rfl | contradiction

theorem State.setPair_reg (s : State) (p : R16) (v : Word) :
    (s.setPair p v).a = s.a ∧ (s.setPair p v).f = s.f ∧ (s.setPair p v).pc = s.pc := by
  cases p <;> exact ⟨rfl, rfl, rfl⟩

/-- `reg` looks at the seven registers only. -/
theorem SameRegs.of_eq {s t : State} (ha : t.a = s.a) (hb : t.b = s.b) (hc : t.c = s.c) (hd : t.d = s.d) (he : t.e = s.e)
    (hh : t.h = s.h) (hl : t.l = s.l) : SameRegs s t := by
  intro r; cases r <;> simp [State.reg, *]

@[simp] theorem State.memWrite_reg (s : State) (addr : Word) (v : Byte) (r : R8) :
    (s.memWrite addr v).reg r = s.reg r := by cases r <;> simp [State.reg]

@[simp] theorem State.push16_reg (s : State) (v : Word) (r : R8) : (s.push16 v).reg r = s.reg r := by
  cases r <;> simp [State.reg]

/-! What the updates that write no 8-bit register leave of `reg`, and of the pairs. -/

@[simp] theorem State.setCycles_reg (s : State) (n : Nat) (r : R8) : (s.setCycles n).reg r = s.reg r := by
  cases r <;> rfl

@[simp] theorem State.countRead_reg (s : State) (r : R8) : s.countRead.reg r = s.reg r := by cases r <;> rfl

@[simp] theorem State.afterPop_reg (s : State) (r : R8) : s.afterPop.reg r = s.reg r := by cases r <;> rfl

@[simp] theorem State.jump_reg (s : State) (a : Word) (r : R8) : (s.jump a).reg r = s.reg r := by cases r <;> rfl

@[simp] theorem State.setFlags_reg (s : State) (z n h c : Bool) (r : R8) : (s.setFlags z n h c).reg r = s.reg r := by
  cases r <;> rfl

@[simp] theorem State.afterOperand_reg (s : State) (o : Operand8) (r : R8) : (s.afterOperand o).reg r = s.reg r := by
  cases o <;> cases r <;> rfl

@[simp] theorem State.afterAluSrc_reg (s : State) (src : AluSrc) (r : R8) : (s.afterAluSrc src).reg r = s.reg r := by
  cases src <;> simp [State.afterAluSrc]

@[simp] theorem State.memWrite16_reg (s : State) (addr v : Word) (r : R8) : (s.memWrite16 addr v).reg r = s.reg r := by
  simp [State.memWrite16]

@[simp] theorem State.setCycles_pair (s : State) (n : Nat) (p : R16) : (s.setCycles n).pair p = s.pair p := by
  cases p <;> rfl

@[simp] theorem State.setCycles_hl (s : State) (n : Nat) : (s.setCycles n).hl = s.hl := rfl

@[simp] theorem State.setFlags_hl (s : State) (z n h c : Bool) : (s.setFlags z n h c).hl = s.hl := rfl

@[simp] theorem State.setCycles_stkPair (s : State) (n : Nat) (p : R16Stk) : (s.setCycles n).stkPair p = s.stkPair p := by
  cases p <;> rfl

/-! ## Flags -/

@[simp] theorem flagByte_and (z n h c : Bool) : flagByte z n h c &&& 0xF0 = flagByte z n h c := by
  cases z <;> cases n <;> cases h <;> cases c <;> rfl

/-- After `setFlags` the state has exactly these flags (R15, R17). -/
theorem State.setFlags_hasFlags (s : State) (z n h c : Bool) : HasFlags (s.setFlags z n h c) z n h c := by
  cases z <;> cases n <;> cases h <;> cases c <;> constructor <;>
    simp [State.flagZ, State.flagN, State.flagH, State.flagC, State.setFlags] <;> decide

theorem HasFlags.congr {s t : State} {z n h c : Bool} (hs : HasFlags s z n h c) (hf : t.f = s.f) : HasFlags t z n h c := by
  constructor
  · simpa [State.flagZ, hf] using hs.z
  · simpa [State.flagN, hf] using hs.n
  · simpa [State.flagH, hf] using hs.h
  · simpa [State.flagC, hf] using hs.c
  · simpa [hf] using hs.low

/-- The condition codes read bits 7 and 4 of F (R17, R58). -/
theorem State.cond_eq (s : State) (cc : Cond) : s.cond cc = condHolds cc s := by
  have h : ∀ f : Byte, f.getLsbD 7 = (f.toNat / 128 == 1) ∧ f.getLsbD 4 = (f.toNat / 16 % 2 == 1) ∧
      (f.toNat / 128 == 0) = !(f.toNat / 128 == 1) ∧ (f.toNat / 16 % 2 == 0) = !(f.toNat / 16 % 2 == 1) := by decide
  obtain ⟨h1, h2, h3, h4⟩ := h s.f
  cases cc <;> simp only [State.cond, condHolds, State.flagZ, State.flagC, h1, h2, h3, h4]

/-! ## Frames -/

/-- A form that touches registers, the flags, `cycles` and `reads` only leaves everything else. -/
theorem SameSystem.of_eq {s t : State} (hmode : t.mode = s.mode) (hline : t.line = s.line) (hcnt : t.counter = s.counter)
    (hfb : t.fb = s.fb) (hime : t.ime = s.ime) (hei : t.eiDelay = s.eiDelay) (hp : t.power = s.power)
    (hfr : t.faultRec = s.faultRec) (hop : t.opcode = s.opcode) (hin : t.inputs = s.inputs)
    (htm : t.timing = s.timing) (hm : t.mem = s.mem)
    (hif : t.ifReg = s.ifReg) (hie : t.ie = s.ie) (hev : t.events = s.events) : SameSystem s t where
  rest := ⟨⟨hmode, hline, hcnt, hfb⟩, ⟨hime, hei, hp, hfr⟩, hop, hin, htm⟩
  mem := hm
  ifReg := hif
  ie := hie
  events := hev
  bytes := SameBytesExcept.of_same hm hif hie hmode hline _

/-- `WroteByte` for a state that is a bus write but for registers, flags and `cycles`. -/
theorem WroteByte.of_memWrite {s t : State} {addr : Word} {v : Byte} (hm : t.mem = (s.memWrite addr v).mem)
    (hif : t.ifReg = (s.memWrite addr v).ifReg) (hie : t.ie = (s.memWrite addr v).ie)
    (hev : t.events = (s.memWrite addr v).events) (hmode : t.mode = s.mode) (hline : t.line = s.line) :
    WroteByte addr v s t :=
  (State.memWrite_wrote s addr v).congr rfl rfl rfl rfl rfl rfl hm hif hie hev (by simp [hmode]) (by simp [hline])

end Sys2Proof.Machine
end

