-- ==== Sys2Proof/Laws/Exec.lean ====
section
/-! SUPPORT. Sys2Proof/Laws/Exec.lean: said once for all instructions, what `exec` can do to the parts of the state that
no instruction, or only a few, may write; and the same for a CPU step. Later proofs cite these instead of opening the 512
arms. -/

namespace Sys2Proof.Machine

/-! ## The backing array -/

/-- What any sequence of bus writes does to the backing array: the canonical form is kept, the ROM range is unchanged
(R39) and STAT's stored mode bits stay 0 (R29). -/
structure MemStep (m m' : Memory) : Prop where
  wf : m.wf → m'.wf
  rom : ∀ a, a < 0x8000 → m'.get a = m.get a
  stat : m.get 0xFF41 &&& 0x03 = 0 → m'.get 0xFF41 &&& 0x03 = 0

theorem MemStep.refl (m : Memory) : MemStep m m := ⟨id, fun _ _ => rfl, id⟩

theorem MemStep.trans {m m' m'' : Memory} (h : MemStep m m') (h' : MemStep m' m'') : MemStep m m'' :=
  ⟨h'.wf ∘ h.wf, fun a ha => (h'.rom a ha).trans (h.rom a ha), h'.stat ∘ h.stat⟩

theorem State.memWrite_memStep (s : State) (addr : Word) (v : Byte) : MemStep s.mem (s.memWrite addr v).mem where
  wf := fun h => State.memWrite_wf h addr v
  rom := fun a ha => by
    by_cases e : a = addr.toNat
    · have ht : busTarget addr = .rom := (busTarget_rom_iff addr).2 (e ▸ ha)
      simp [State.memWrite, ht, State.emit]
    · exact State.memWrite_mem_ne s addr v e
  stat := fun h => by
    have harr := State.memWrite_array s addr v 0xFF41
    have hn : (0xFF41 : Word).toNat = 0xFF41 := rfl
    rw [hn] at harr
    rw [harr]
    split
    · rename_i e; obtain ⟨rfl, e⟩ := e; exact absurd e (by decide)
    · split
      · rw [BitVec.and_assoc]; simp
      · exact h

theorem State.memWrite16_memStep (s : State) (addr v : Word) : MemStep s.mem (s.memWrite16 addr v).mem :=
  (State.memWrite_memStep s _ _).trans (State.memWrite_memStep _ _ _)

theorem State.push16_memStep (s : State) (v : Word) : MemStep s.mem (s.push16 v).mem := by
  have high := State.memWrite_memStep ({ s with sp := s.sp - 1 } : State) (s.sp - 1) (hiByte v)
  exact high.trans (State.memWrite_memStep ({ ({ s with sp := s.sp - 1 } : State).memWrite (s.sp - 1) (hiByte v) with
    sp := s.sp - 2 } : State) _ _)

theorem State.setOperand_memStep (s : State) (o : Operand8) (v : Byte) : MemStep s.mem (s.setOperand o v).mem := by
  cases o with
  | reg r => simpa [State.setOperand] using MemStep.refl _
  | atHl => exact State.memWrite_memStep _ _ _

/-! ## Every instruction -/

/-- What every instruction leaves: the PPU, the inputs, the cycle parameters and the step's opcode bytes; the backing
array by bus writes only; F's low nibble 0 (R15). -/
structure ExecFrame (s t : State) : Prop where
  ppu : SamePpu s t
  opcode : t.opcode = s.opcode
  inputs : t.inputs = s.inputs
  timing : t.timing = s.timing
  mem : MemStep s.mem t.mem
  fLow : s.f &&& 0x0F = 0 → t.f &&& 0x0F = 0

/-- What an instruction can do to the control state (R21 to R24): nothing; RETI sets IME; EI and DI write EiDelay; HALT
and STOP leave RUN; an illegal slot records the fault and puts PC back. -/
def ControlEffect (i : Instr) (s t : State) : Prop :=
  SameControl s t ∨
  (i = .reti ∧ SameControl s { t with ime := s.ime } ∧ t.ime = true) ∨
  (i = .di ∧ SameControl s { t with ime := s.ime, eiDelay := s.eiDelay } ∧ t.ime = false ∧ t.eiDelay = 0) ∨
  (i = .ei ∧ SameControl s { t with eiDelay := s.eiDelay } ∧
    t.eiDelay = if s.eiDelay = 0 then 2 else s.eiDelay) ∨
  ((i = .halt ∨ ∃ pad, i = .stop pad) ∧ SameControl s { t with power := s.power } ∧ t.power ≠ .run) ∨
  (∃ k, i = .illegal k ∧ SameControl s { t with faultRec := s.faultRec } ∧ t.pc = s.pc - 1 ∧
    t.faultRec = some { kind := .unknownOpcode, opcode := k.opcode, pc := s.pc - 1 })

/-- What the shared operations on registers, flags and memory leave: `ExecFrame` and the control state. -/
structure Quiet (s t : State) : Prop where
  frame : ExecFrame s t
  control : SameControl s t

theorem SamePpu.refl (s : State) : SamePpu s s := ⟨rfl, rfl, rfl, rfl⟩

theorem SameControl.refl (s : State) : SameControl s s := ⟨rfl, rfl, rfl, rfl⟩

theorem Quiet.refl (s : State) : Quiet s s := ⟨⟨.refl s, rfl, rfl, rfl, .refl _, id⟩, .refl s⟩

theorem Quiet.trans {s t u : State} (h : Quiet s t) (h' : Quiet t u) : Quiet s u where
  frame :=
    { ppu := ⟨h'.frame.ppu.mode.trans h.frame.ppu.mode, h'.frame.ppu.line.trans h.frame.ppu.line,
        h'.frame.ppu.counter.trans h.frame.ppu.counter, h'.frame.ppu.fb.trans h.frame.ppu.fb⟩
      opcode := h'.frame.opcode.trans h.frame.opcode
      inputs := h'.frame.inputs.trans h.frame.inputs
      timing := h'.frame.timing.trans h.frame.timing
      mem := h.frame.mem.trans h'.frame.mem
      fLow := h'.frame.fLow ∘ h.frame.fLow }
  control := ⟨h'.control.ime.trans h.control.ime, h'.control.eiDelay.trans h.control.eiDelay,
    h'.control.power.trans h.control.power, h'.control.faultRec.trans h.control.faultRec⟩

theorem quiet_setReg (s : State) (r : R8) (v : Byte) : Quiet s (s.setReg r v) := by
  constructor <;> constructor <;> first | constructor | skip
  all_goals simp

theorem quiet_setPair (s : State) (p : R16) (v : Word) : Quiet s (s.setPair p v) := by
  cases p <;> exact ⟨⟨⟨rfl, rfl, rfl, rfl⟩, rfl, rfl, rfl, .refl _, id⟩, ⟨rfl, rfl, rfl, rfl⟩⟩

theorem quiet_setHl (s : State) (v : Word) : Quiet s (s.setHl v) := quiet_setPair s .hl v

theorem quiet_setA (s : State) (v : Byte) : Quiet s { s with a := v } := quiet_setReg s .a v

theorem quiet_setF (s : State) (v : Byte) : Quiet s (s.setF v) :=
  ⟨⟨⟨rfl, rfl, rfl, rfl⟩, rfl, rfl, rfl, .refl _, fun _ => by simp [State.setF, BitVec.and_assoc]⟩,
    ⟨rfl, rfl, rfl, rfl⟩⟩

theorem quiet_setFlags (s : State) (z n h c : Bool) : Quiet s (s.setFlags z n h c) := quiet_setF s _

theorem quiet_setStkPair (s : State) (p : R16Stk) (v : Word) : Quiet s (s.setStkPair p v) := by
  cases p
  · exact quiet_setPair s .bc v
  · exact quiet_setPair s .de v
  · exact quiet_setPair s .hl v
  · exact (quiet_setA s _).trans (quiet_setF _ _)

theorem quiet_countRead (s : State) : Quiet s s.countRead :=
  ⟨⟨⟨rfl, rfl, rfl, rfl⟩, rfl, rfl, rfl, .refl _, id⟩, ⟨rfl, rfl, rfl, rfl⟩⟩

theorem quiet_jump (s : State) (a : Word) : Quiet s (s.jump a) :=
  ⟨⟨⟨rfl, rfl, rfl, rfl⟩, rfl, rfl, rfl, .refl _, id⟩, ⟨rfl, rfl, rfl, rfl⟩⟩

theorem quiet_afterPop (s : State) : Quiet s s.afterPop :=
  ⟨⟨⟨rfl, rfl, rfl, rfl⟩, rfl, rfl, rfl, .refl _, id⟩, ⟨rfl, rfl, rfl, rfl⟩⟩

theorem quiet_memWrite (s : State) (addr : Word) (v : Byte) : Quiet s (s.memWrite addr v) :=
  ⟨⟨⟨by simp, by simp, by simp, by simp⟩, by simp, by simp, by simp, State.memWrite_memStep s addr v, by simp⟩,
    ⟨by simp, by simp, by simp, by simp⟩⟩

theorem quiet_memWrite16 (s : State) (addr v : Word) : Quiet s (s.memWrite16 addr v) :=
  (quiet_memWrite s _ _).trans (quiet_memWrite _ _ _)

theorem quiet_push16 (s : State) (v : Word) : Quiet s (s.push16 v) :=
  ⟨⟨⟨by simp, by simp, by simp, by simp⟩, by simp, by simp, by simp, State.push16_memStep s v, by simp⟩,
    ⟨by simp, by simp, by simp, by simp⟩⟩

theorem quiet_afterOperand (s : State) (o : Operand8) : Quiet s (s.afterOperand o) := by
  cases o
  · exact .refl s
  · exact quiet_countRead s

theorem quiet_setOperand (s : State) (o : Operand8) (v : Byte) : Quiet s (s.setOperand o v) := by
  cases o
  · exact quiet_setReg s _ v
  · exact quiet_memWrite s _ v

theorem quiet_afterAluSrc (s : State) (src : AluSrc) : Quiet s (s.afterAluSrc src) := by
  cases src
  · exact quiet_afterOperand s _
  · exact .refl s

/-! ## The shared meanings -/

theorem quiet_ldReg (dst src : R8) (s : State) : Quiet s (ldReg dst src s) := quiet_setReg s dst _

theorem quiet_ldRegFrom (dst : R8) (addr : Word) (s : State) : Quiet s (ldRegFrom dst addr s) :=
  (quiet_countRead s).trans (quiet_setReg _ dst _)

theorem quiet_storeAThenHl (v : Word) (s : State) : Quiet s (storeAThenHl v s) :=
  (quiet_memWrite s s.hl s.a).trans (quiet_setHl _ v)

theorem quiet_loadAThenHl (v : Word) (s : State) : Quiet s (loadAThenHl v s) :=
  (quiet_ldRegFrom .a s.hl s).trans (quiet_setHl _ v)

theorem quiet_popPair (p : R16Stk) (s : State) : Quiet s (popPair p s) :=
  (quiet_afterPop s).trans (quiet_setStkPair _ p _)

theorem quiet_setResultFlags {w : Nat} (r : Flagged w) (s : State) : Quiet s (setResultFlags r s) :=
  quiet_setFlags s _ _ _ _

theorem quiet_aluStep (op : AluOp) (src : AluSrc) (s : State) : Quiet s (aluStep op src s) := by
  have h := (quiet_afterAluSrc s src).trans (quiet_setResultFlags (aluResult op s.a (s.aluSrc src) s.flagC) _)
  cases op <;> first | exact h | exact h.trans (quiet_setA _ _)

theorem quiet_writeBack (s : State) (o : Operand8) (v : Byte) : Quiet s ((s.afterOperand o).setOperand o v) :=
  (quiet_afterOperand s o).trans (quiet_setOperand _ o v)

theorem quiet_incOperand (o : Operand8) (s : State) : Quiet s (incOperand o s) :=
  (quiet_writeBack s o _).trans (quiet_setResultFlags _ _)

theorem quiet_decOperand (o : Operand8) (s : State) : Quiet s (decOperand o s) :=
  (quiet_writeBack s o _).trans (quiet_setResultFlags _ _)

theorem quiet_daaStep (s : State) : Quiet s (daaStep s) := (quiet_setA s _).trans (quiet_setResultFlags _ _)

theorem quiet_cplStep (s : State) : Quiet s (cplStep s) := (quiet_setA s _).trans (quiet_setFlags _ _ _ _ _)

theorem quiet_addHlStep (p : R16) (s : State) : Quiet s (addHlStep p s) :=
  (quiet_setHl s _).trans (quiet_setResultFlags _ _)

theorem quiet_spPlusInto (p : R16) (e : Byte) (s : State) : Quiet s (spPlusInto p e s) :=
  (quiet_setPair s p _).trans (quiet_setResultFlags _ _)

theorem quiet_rotAccStep (op : RotOp) (s : State) : Quiet s (rotAccStep op s) :=
  (quiet_setA s _).trans (quiet_setResultFlags _ _)

theorem quiet_rotStep (op : RotOp) (o : Operand8) (s : State) : Quiet s (rotStep op o s) :=
  (quiet_writeBack s o _).trans (quiet_setResultFlags _ _)

theorem quiet_bitTestStep (n : Fin 8) (o : Operand8) (s : State) : Quiet s (bitTestStep n o s) :=
  (quiet_afterOperand s o).trans (quiet_setFlags _ _ _ _ _)

theorem quiet_bitResStep (n : Fin 8) (o : Operand8) (s : State) : Quiet s (bitResStep n o s) := quiet_writeBack s o _

theorem quiet_bitSetStep (n : Fin 8) (o : Operand8) (s : State) : Quiet s (bitSetStep n o s) := quiet_writeBack s o _

theorem quiet_callTo (a : Word) (s : State) : Quiet s (callTo a s) := (quiet_push16 s _).trans (quiet_jump _ a)

theorem quiet_returnStep (s : State) : Quiet s (returnStep s) := (quiet_afterPop s).trans (quiet_jump _ _)

/-! ## Outcomes -/

/-- What the outcome of a meaning can be, for the instruction `i` in the state `s`: a next state, and what it leaves. -/
def Framed (i : Instr) (s : State) (o : Host.Outcome State Fault Refusal) : Prop :=
  ∃ t, o = .next t ∧ ExecFrame s t ∧ ControlEffect i s t

/-- A meaning that finishes in a quiet state changes no control state. -/
theorem framed_setCycles {i : Instr} {s u : State} (n : Nat) (h : Quiet s u) : Framed i s (.next (u.setCycles n)) :=
  ⟨u.setCycles n, rfl, ⟨⟨h.frame.ppu.mode, h.frame.ppu.line, h.frame.ppu.counter, h.frame.ppu.fb⟩, h.frame.opcode,
    h.frame.inputs, h.frame.timing, h.frame.mem, h.frame.fLow⟩,
    .inl ⟨h.control.ime, h.control.eiDelay, h.control.power, h.control.faultRec⟩⟩

theorem framed_finish {i : Instr} {s u : State} (slot : OpSlot) (h : Quiet s u) : Framed i s (finish slot u) :=
  framed_setCycles _ h

theorem framed_finishNotTaken {i : Instr} (slot : OpSlot) (s : State) : Framed i s (finishNotTaken slot s) :=
  framed_setCycles _ (.refl s)

theorem framed_jumpIf {i : Instr} (cc : Cond) (a : Word) (k : OpSlot) (s : State) : Framed i s (jumpIf cc a k s) := by
  unfold jumpIf
  split
  · exact framed_finish k (quiet_jump s a)
  · exact framed_finishNotTaken k s

theorem framed_callIf {i : Instr} (cc : Cond) (a : Word) (k : OpSlot) (s : State) : Framed i s (callIf cc a k s) := by
  unfold callIf
  split
  · exact framed_finish k (quiet_callTo a s)
  · exact framed_finishNotTaken k s

theorem framed_returnIf {i : Instr} (cc : Cond) (k : OpSlot) (s : State) : Framed i s (returnIf cc k s) := by
  unfold returnIf
  split
  · exact framed_finish k (quiet_returnStep s)
  · exact framed_finishNotTaken k s

theorem framed_runSecondary {i : Instr} (op2 : Byte) (s : State) : Framed i s (runSecondary op2 s) := by
  unfold runSecondary
  dsimp only
  split
  · exact framed_finish _ (quiet_rotStep _ _ s)
  · exact framed_finish _ (quiet_bitTestStep _ _ s)
  · exact framed_finish _ (quiet_bitResStep _ _ s)
  · exact framed_finish _ (quiet_bitSetStep _ _ s)

/-- RETI: the control state but IME is left, and IME is set (R185). -/
theorem framed_reti (k : OpSlot) (s : State) : Framed .reti s (finish k s.returnFromInterrupt) := by
  refine ⟨s.returnFromInterrupt.setCycles (s.timing.entry k).taken, rfl, ⟨⟨?_, ?_, ?_, ?_⟩, ?_, ?_, ?_, ?_, ?_⟩,
    .inr (.inl ⟨rfl, ⟨?_, ?_, ?_, ?_⟩, ?_⟩)⟩
  case refine_8 => simpa using MemStep.refl s.mem
  all_goals simp

theorem framed_di (k : OpSlot) (s : State) : Framed .di s (finish k { s with ime := false, eiDelay := 0 }) :=
  ⟨_, rfl, ⟨⟨rfl, rfl, rfl, rfl⟩, rfl, rfl, rfl, .refl _, id⟩, .inr (.inr (.inl ⟨rfl, ⟨rfl, rfl, rfl, rfl⟩, rfl, rfl⟩))⟩

theorem framed_ei (k : OpSlot) (s : State) :
    Framed .ei s (finish k { s with eiDelay := if s.eiDelay = 0 then 2 else s.eiDelay }) :=
  ⟨_, rfl, ⟨⟨rfl, rfl, rfl, rfl⟩, rfl, rfl, rfl, .refl _, id⟩, .inr (.inr (.inr (.inl ⟨rfl, ⟨rfl, rfl, rfl, rfl⟩, rfl⟩)))⟩

theorem framed_sleep {i : Instr} (hi : i = .halt ∨ ∃ pad, i = .stop pad) (k : OpSlot) (s : State) {p : Power}
    (hp : p ≠ .run) : Framed i s (finish k { s with power := p }) :=
  ⟨_, rfl, ⟨⟨rfl, rfl, rfl, rfl⟩, rfl, rfl, rfl, .refl _, id⟩,
    .inr (.inr (.inr (.inr (.inl ⟨hi, ⟨rfl, rfl, rfl, rfl⟩, hp⟩))))⟩

theorem framed_illegal (k : IllegalSlot) (s : State) : Framed (.illegal k) s (raiseUnknownOpcode k.opcode s) :=
  ⟨_, rfl, ⟨⟨rfl, rfl, rfl, rfl⟩, rfl, rfl, rfl, .refl _, id⟩,
    .inr (.inr (.inr (.inr (.inr ⟨k, rfl, ⟨rfl, rfl, rfl, rfl⟩, rfl, rfl⟩))))⟩

/-- Every instruction answers a next state; what it leaves, and what it can do to the control state. -/
theorem exec_framed (s : State) : ∀ i, Framed i s (exec i s) := by
  apply Instr.byFamily
  case ldReg => intro dst src; rw [exec_ldReg]; exact framed_finish _ (quiet_ldReg dst src s)
  case ldRegImm => intro dst n; rw [exec_ldRegImm]; exact framed_finish _ (quiet_setReg s dst n)
  case ldRegAtHl => intro dst; rw [exec_ldRegAtHl]; exact framed_finish _ (quiet_ldRegFrom dst s.hl s)
  case ldAtHlReg => intro src; rw [exec_ldAtHlReg]; exact framed_finish _ (quiet_memWrite s _ _)
  case ldPair => intro p n; rw [exec_ldPair]; exact framed_finish _ (quiet_setPair s p n)
  case push => intro p; rw [exec_push]; exact framed_finish _ (quiet_push16 s _)
  case pop => intro p; rw [exec_pop]; exact framed_finish _ (quiet_popPair p s)
  case alu => intro op src; rw [exec_alu]; exact framed_finish _ (quiet_aluStep op src s)
  case inc8 => intro o; rw [exec_inc8]; exact framed_finish _ (quiet_incOperand o s)
  case dec8 => intro o; rw [exec_dec8]; exact framed_finish _ (quiet_decOperand o s)
  case addHl => intro p; rw [exec_addHl]; exact framed_finish _ (quiet_addHlStep p s)
  case incPair => intro p; rw [exec_incPair]; exact framed_finish _ (quiet_setPair s p _)
  case decPair => intro p; rw [exec_decPair]; exact framed_finish _ (quiet_setPair s p _)
  case rot => intro op o; rw [exec_rot]; exact framed_finish _ (quiet_rotStep op o s)
  case bitTest => intro n o; rw [exec_bitTest]; exact framed_finish _ (quiet_bitTestStep n o s)
  case bitRes => intro n o; rw [exec_bitRes]; exact framed_finish _ (quiet_bitResStep n o s)
  case bitSet => intro n o; rw [exec_bitSet]; exact framed_finish _ (quiet_bitSetStep n o s)
  case jpCond => intro cc n; rw [exec_jpCond]; exact framed_jumpIf cc _ _ s
  case jrCond => intro cc e; rw [exec_jrCond]; exact framed_jumpIf cc _ _ s
  case callCond => intro cc n; rw [exec_callCond]; exact framed_callIf cc _ _ s
  case retCond => intro cc; rw [exec_retCond]; exact framed_returnIf cc _ s
  case rst => intro y; rw [exec_rst]; exact framed_finish _ (quiet_callTo _ s)
  case illegal => intro k; rw [exec_illegal]; exact framed_illegal k s
  case nop => rw [exec_nop]; exact framed_finish _ (.refl s)
  case ldAtBcA => rw [exec_ldAtBcA]; exact framed_finish _ (quiet_memWrite s _ _)
  case rlca => rw [exec_rlca]; exact framed_finish _ (quiet_rotAccStep _ s)
  case ldAtA16Sp => intro n; rw [exec_ldAtA16Sp]; exact framed_finish _ (quiet_memWrite16 s _ _)
  case ldAAtBc => rw [exec_ldAAtBc]; exact framed_finish _ (quiet_ldRegFrom _ _ s)
  case rrca => rw [exec_rrca]; exact framed_finish _ (quiet_rotAccStep _ s)
  case stop => intro pad; rw [exec_stop]; exact framed_sleep (.inr ⟨pad, rfl⟩) _ s Power.noConfusion
  case ldAtDeA => rw [exec_ldAtDeA]; exact framed_finish _ (quiet_memWrite s _ _)
  case rla => rw [exec_rla]; exact framed_finish _ (quiet_rotAccStep _ s)
  case jrE8 => intro e; rw [exec_jrE8]; exact framed_finish _ (quiet_jump s _)
  case ldAAtDe => rw [exec_ldAAtDe]; exact framed_finish _ (quiet_ldRegFrom _ _ s)
  case rra => rw [exec_rra]; exact framed_finish _ (quiet_rotAccStep _ s)
  case ldAtHlIncA => rw [exec_ldAtHlIncA]; exact framed_finish _ (quiet_storeAThenHl _ s)
  case daa => rw [exec_daa]; exact framed_finish _ (quiet_daaStep s)
  case ldAAtHlInc => rw [exec_ldAAtHlInc]; exact framed_finish _ (quiet_loadAThenHl _ s)
  case cpl => rw [exec_cpl]; exact framed_finish _ (quiet_cplStep s)
  case ldAtHlDecA => rw [exec_ldAtHlDecA]; exact framed_finish _ (quiet_storeAThenHl _ s)
  case ldAtHlD8 => intro n; rw [exec_ldAtHlD8]; exact framed_finish _ (quiet_memWrite s _ _)
  case scf => rw [exec_scf]; exact framed_finish _ (quiet_setFlags s _ _ _ _)
  case ldAAtHlDec => rw [exec_ldAAtHlDec]; exact framed_finish _ (quiet_loadAThenHl _ s)
  case ccf => rw [exec_ccf]; exact framed_finish _ (quiet_setFlags s _ _ _ _)
  case halt => rw [exec_halt]; exact framed_sleep (.inl rfl) _ s Power.noConfusion
  case jpA16 => intro n; rw [exec_jpA16]; exact framed_finish _ (quiet_jump s n)
  case ret => rw [exec_ret]; exact framed_finish _ (quiet_returnStep s)
  case prefixCb => intro op2; rw [exec_prefixCb]; exact framed_runSecondary op2 s
  case callA16 => intro n; rw [exec_callA16]; exact framed_finish _ (quiet_callTo n s)
  case reti => rw [exec_reti]; exact framed_reti _ s
  case ldhAtA8A => intro n; rw [exec_ldhAtA8A]; exact framed_finish _ (quiet_memWrite s _ _)
  case ldAtCA => rw [exec_ldAtCA]; exact framed_finish _ (quiet_memWrite s _ _)
  case addSpE8 => intro e; rw [exec_addSpE8]; exact framed_finish _ (quiet_spPlusInto .sp e s)
  case jpHl => rw [exec_jpHl]; exact framed_finish _ (quiet_jump s _)
  case ldAtA16A => intro n; rw [exec_ldAtA16A]; exact framed_finish _ (quiet_memWrite s _ _)
  case ldhAAtA8 => intro n; rw [exec_ldhAAtA8]; exact framed_finish _ (quiet_ldRegFrom _ _ s)
  case ldAAtC => rw [exec_ldAAtC]; exact framed_finish _ (quiet_ldRegFrom _ _ s)
  case di => rw [exec_di]; exact framed_di _ s
  case ldHlSpE8 => intro e; rw [exec_ldHlSpE8]; exact framed_finish _ (quiet_spPlusInto .hl e s)
  case ldSpHl => rw [exec_ldSpHl]; exact framed_finish _ (quiet_setPair s .sp _)
  case ldAAtA16 => intro n; rw [exec_ldAAtA16]; exact framed_finish _ (quiet_ldRegFrom _ _ s)
  case ei => rw [exec_ei]; exact framed_ei _ s

/-- `exec_framed`, with the next state named. -/
theorem exec_frame (i : Instr) (s : State) : ∃ t, exec i s = .next t ∧ ExecFrame s t ∧ ControlEffect i s t :=
  exec_framed s i

end Sys2Proof.Machine
end

