-- ==== Sys2Proof/Laws/Alu.lean ====
section
/-! SUPPORT. Sys2Proof/Laws/Alu.lean: what each flag computation of Machine/Flags.lean gives, in exact arithmetic, and
what the shared steps of the arithmetic, rotate and bit families leave in the registers and the flags. -/

namespace Sys2Proof.Machine

/-! ## Fields of a byte or word as numbers -/

theorem nibble_eq (v : Byte) : nibble v = v.toNat % 16 := by
  simp only [nibble, BitVec.toNat_and]; exact Nat.and_two_pow_sub_one_eq_mod _ 4

theorem word_and_nibble (w : Word) : (w &&& 0x0F).toNat = w.toNat % 16 := by
  simp only [BitVec.toNat_and]; exact Nat.and_two_pow_sub_one_eq_mod _ 4

theorem word_and_byte (w : Word) : (w &&& 0xFF).toNat = w.toNat % 256 := by
  simp only [BitVec.toNat_and]; exact Nat.and_two_pow_sub_one_eq_mod _ 8

theorem word_and_bit11 (w : Word) : (w &&& 0x0FFF).toNat = w.toNat % 4096 := by
  simp only [BitVec.toNat_and]; exact Nat.and_two_pow_sub_one_eq_mod _ 12

theorem byte_beq_zero (v : Byte) : (v == 0#8) = decide (v.toNat = 0) := by
  rw [Bool.eq_iff_iff]; simp [← BitVec.toNat_inj]

theorem ofInt_toNat (n : Int) : ((BitVec.ofInt 8 n).toNat : Int) = n % 256 := by
  simp [BitVec.toNat_ofInt]; omega

/-- PC or SP plus a signed offset (R138, R178). -/
theorem add_sext16 (w : Word) (e : Byte) : ((w + sext16 e).toNat : Int) = (w.toNat + e.toInt) % 65536 := by
  have hlt := e.isLt
  simp only [sext16, BitVec.toNat_add, BitVec.signExtend, BitVec.toInt_eq_toNat_cond]
  split <;> simp [BitVec.toNat_ofInt]
  omega

/-! ## The flag computations -/

/-- ADD and ADC (R95, R96). -/
theorem aluAdd_spec (a v : Byte) (c : Bool) :
    (aluAdd a v c).res.toNat = (a.toNat + v.toNat + c.toNat) % 256 ∧
    (aluAdd a v c).z = decide ((a.toNat + v.toNat + c.toNat) % 256 = 0) ∧ (aluAdd a v c).n = false ∧
    (aluAdd a v c).h = decide (a.toNat % 16 + v.toNat % 16 + c.toNat > 0x0F) ∧
    (aluAdd a v c).c = decide (a.toNat + v.toNat + c.toNat > 0xFF) := by
  refine ⟨by simp [aluAdd, carryIn], ?_, rfl, ?_, rfl⟩
  · exact (byte_beq_zero _).trans (by simp [carryIn])
  · simp [aluAdd, carryIn, nibble_eq]

/-- SUB and SBC (R97, R98). -/
theorem aluSub_spec (a v : Byte) (c : Bool) :
    ((aluSub a v c).res.toNat : Int) = ((a.toNat : Int) - v.toNat - c.toNat) % 256 ∧
    (aluSub a v c).z = decide (((a.toNat : Int) - v.toNat - c.toNat) % 256 = 0) ∧ (aluSub a v c).n = true ∧
    (aluSub a v c).h = decide (a.toNat % 16 < v.toNat % 16 + c.toNat) ∧
    (aluSub a v c).c = decide (a.toNat < v.toNat + c.toNat) := by
  have h := ofInt_toNat ((a.toNat : Int) - v.toNat - c.toNat)
  refine ⟨h, ?_, rfl, ?_, rfl⟩
  · exact (byte_beq_zero _).trans (by rw [carryIn, ← h]; simp)
  · simp [aluSub, nibble_eq, carryIn]

/-- INC (R127). -/
theorem incResult_spec (v : Byte) (c : Bool) :
    (incResult v c).res.toNat = (v.toNat + 1) % 256 ∧ (incResult v c).z = decide ((v.toNat + 1) % 256 = 0) ∧
    (incResult v c).n = false ∧ (incResult v c).h = decide (v.toNat % 16 = 0x0F) ∧ (incResult v c).c = c := by
  refine ⟨by simp [incResult], (byte_beq_zero _).trans (by simp), rfl, ?_, rfl⟩
  simp only [incResult, nibble_eq]; rfl

/-- DEC (R129). -/
theorem decResult_spec (v : Byte) (c : Bool) :
    (decResult v c).res.toNat = (v.toNat + 255) % 256 ∧ (decResult v c).z = decide ((v.toNat + 255) % 256 = 0) ∧
    (decResult v c).n = true ∧ (decResult v c).h = decide (v.toNat % 16 = 0x00) ∧ (decResult v c).c = c := by
  have h : (v - 1).toNat = (v.toNat + 255) % 256 := by simp [BitVec.toNat_sub, Nat.add_comm]
  refine ⟨h, (byte_beq_zero _).trans (by rw [h]), rfl, ?_, rfl⟩
  simp only [decResult, nibble_eq]; rfl

/-- ADD HL,rr (R135). -/
theorem addHlResult_spec (x v : Word) (z : Bool) :
    (addHlResult x v z).res.toNat = (x.toNat + v.toNat) % 65536 ∧ (addHlResult x v z).z = z ∧
    (addHlResult x v z).n = false ∧
    (addHlResult x v z).h = decide (x.toNat % 4096 + v.toNat % 4096 > 0x0FFF) ∧
    (addHlResult x v z).c = decide (x.toNat + v.toNat > 0xFFFF) := by
  refine ⟨by simp [addHlResult], rfl, rfl, ?_, rfl⟩
  simp only [addHlResult, word_and_bit11]

/-- ADD SP,e8 and LD HL,SP+e8 (R138, R139). -/
theorem addSpResult_spec (sp : Word) (e : Byte) :
    ((addSpResult sp e).res.toNat : Int) = (sp.toNat + e.toInt) % 65536 ∧ (addSpResult sp e).z = false ∧
    (addSpResult sp e).n = false ∧ (addSpResult sp e).h = decide (sp.toNat % 16 + e.toNat % 16 > 0x0F) ∧
    (addSpResult sp e).c = decide (sp.toNat % 256 + e.toNat > 0xFF) := by
  have hn : (e &&& 0x0F).toNat = e.toNat % 16 := nibble_eq e
  refine ⟨add_sext16 sp e, rfl, rfl, ?_, ?_⟩
  · simp only [addSpResult, word_and_nibble, hn]
  · simp only [addSpResult, word_and_byte]

/-- The rotates and shifts (R145 to R166). -/
theorem shiftResult_spec (op : RotOp) (v : Byte) (c : Bool) :
    (shiftResult op v c).1.toNat = shiftValue op v.toNat c.toNat ∧
    (shiftResult op v c).2 = shiftCarry op v.toNat := by
  revert v c; cases op <;> decide +kernel

/-- RES and SET: one bit, and every other bit kept (R171 to R174). -/
theorem bitMask_spec (v : Byte) (n : Fin 8) {k : Nat} (hk : k < 8) :
    (v &&& ~~~bitMask n).getLsbD k = (if k = n.val then false else v.getLsbD k) ∧
    (v ||| bitMask n).getLsbD k = (if k = n.val then true else v.getLsbD k) := by
  have hm : ∀ n : Fin 8, ∀ k < 8, (bitMask n).getLsbD k = decide (k = n.val) := by decide
  simp only [BitVec.getLsbD_and, BitVec.getLsbD_or, BitVec.getLsbD_not, hm n k hk]
  by_cases h : k = n.val <;> simp [h, hk]

/-- BIT (R169). -/
theorem getLsbD_eq_div (v : Byte) (n : Nat) : (!v.getLsbD n) = decide (v.toNat / 2 ^ n % 2 = 0) := by
  rw [BitVec.getLsbD, Nat.testBit_eq_decide_div_mod_eq]
  rcases Nat.mod_two_eq_zero_or_one (v.toNat / 2 ^ n) with h | h <;> simp [h]

/-! ## The shared steps -/

/-- A state whose F is that of a result holds the result's flags. -/
theorem hasFlags_of_result {w : Nat} {r : Flagged w} {s t : State} (h : t.f = (setResultFlags r s).f) :
    HasFlags t r.z r.n r.h r.c := (State.setFlags_hasFlags s r.z r.n r.h r.c).congr h

theorem aluStep_a {op : AluOp} (h : op ≠ .cp) (src : AluSrc) (s : State) :
    (aluStep op src s).a = (aluResult op s.a (s.aluSrc src) s.flagC).res := by
  cases op <;> first | rfl | contradiction

theorem aluStep_flags (op : AluOp) (src : AluSrc) (s : State) :
    let r := aluResult op s.a (s.aluSrc src) s.flagC
    HasFlags (aluStep op src s) r.z r.n r.h r.c := by
  refine hasFlags_of_result (s := s.afterAluSrc src) ?_
  cases op <;> rfl

theorem incOperand_flags (o : Operand8) (s : State) :
    let r := incResult (s.operand o) s.flagC
    HasFlags (incOperand o s) r.z r.n r.h r.c := hasFlags_of_result rfl

theorem decOperand_flags (o : Operand8) (s : State) :
    let r := decResult (s.operand o) s.flagC
    HasFlags (decOperand o s) r.z r.n r.h r.c := hasFlags_of_result rfl

theorem rotStep_flags (op : RotOp) (o : Operand8) (s : State) :
    let r := rotResult op (s.operand o) s.flagC
    HasFlags (rotStep op o s) r.z r.n r.h r.c := hasFlags_of_result rfl

theorem addHlStep_flags (p : R16) (s : State) :
    let r := addHlResult s.hl (s.pair p) s.flagZ
    HasFlags (addHlStep p s) r.z r.n r.h r.c := hasFlags_of_result rfl

theorem spPlusInto_flags (p : R16) (e : Byte) (s : State) :
    let r := addSpResult s.sp e
    HasFlags (spPlusInto p e s) r.z r.n r.h r.c := hasFlags_of_result rfl

theorem daaStep_flags (s : State) :
    let r := daaResult s.a s.flagN s.flagH s.flagC
    HasFlags (daaStep s) r.z r.n r.h r.c := hasFlags_of_result rfl

/-! ## From a quiet step to the frames of the statements -/

/-- A quiet step leaves everything outside the registers and the bus. -/
theorem Quiet.sameRest {s u : State} (h : Quiet s u) (n : Nat) : SameRest s (u.setCycles n) :=
  ⟨⟨h.frame.ppu.mode, h.frame.ppu.line, h.frame.ppu.counter, h.frame.ppu.fb⟩,
    ⟨h.control.ime, h.control.eiDelay, h.control.power, h.control.faultRec⟩, h.frame.opcode, h.frame.inputs,
    h.frame.timing⟩

/-- A quiet step that stores nothing leaves everything outside the registers. -/
theorem Quiet.sameSystem {s u : State} (h : Quiet s u) (n : Nat) (hm : u.mem = s.mem) (hif : u.ifReg = s.ifReg)
    (hie : u.ie = s.ie) (hev : u.events = s.events) : SameSystem s (u.setCycles n) :=
  SameSystem.of_eq h.frame.ppu.mode h.frame.ppu.line h.frame.ppu.counter h.frame.ppu.fb h.control.ime
    h.control.eiDelay h.control.power h.control.faultRec h.frame.opcode h.frame.inputs h.frame.timing hm hif
    hie hev

end Sys2Proof.Machine
end

