-- ==== Sys2Proof/Laws/Cycles.lean ====
section
/-! SUPPORT. Sys2Proof/Laws/Cycles.lean: the default cycles of each family of rows (spec/opcode_table.json, R228), and
that a meaning which finishes in a quiet state costs its slot's entry. -/

namespace Sys2Proof.Machine

/-! ## The default table by family -/

/-- An operand that is not part of the slot does not matter. -/
theorem defaultTaken_congr {i j : Instr} (h : i.slot = j.slot) : defaultTaken i = defaultTaken j := by
  rw [defaultTaken, h, defaultTaken]

theorem defaultNotTaken_congr {i j : Instr} (h : i.slot = j.slot) : defaultNotTaken i = defaultNotTaken j := by
  rw [defaultNotTaken, h, defaultNotTaken]

@[simp] theorem defaultTaken_ldReg (dst src : R8) : defaultTaken (.ldReg dst src) = 4 := by cases dst <;> cases src <;> rfl
@[simp] theorem defaultTaken_ldRegImm (dst : R8) (n : Byte) : defaultTaken (.ldRegImm dst n) = 8 := by
  rw [defaultTaken_congr (j := .ldRegImm dst 0) (by cases dst <;> rfl)]; cases dst <;> rfl
@[simp] theorem defaultTaken_ldRegAtHl (dst : R8) : defaultTaken (.ldRegAtHl dst) = 8 := by cases dst <;> rfl
@[simp] theorem defaultTaken_ldAtHlReg (src : R8) : defaultTaken (.ldAtHlReg src) = 8 := by cases src <;> rfl
@[simp] theorem defaultTaken_ldPair (p : R16) (n : Word) : defaultTaken (.ldPair p n) = 12 := by
  rw [defaultTaken_congr (j := .ldPair p 0) (by cases p <;> rfl)]; cases p <;> rfl
@[simp] theorem defaultTaken_push (p : R16Stk) : defaultTaken (.push p) = 16 := by cases p <;> rfl
@[simp] theorem defaultTaken_pop (p : R16Stk) : defaultTaken (.pop p) = 12 := by cases p <;> rfl

@[simp] theorem defaultTaken_alu (op : AluOp) (src : AluSrc) : defaultTaken (.alu op src) = aluCycles src := by
  rcases src with (r | _) | n
  · cases op <;> cases r <;> rfl
  · cases op <;> rfl
  · rw [defaultTaken_congr (j := .alu op (.imm 0)) (by cases op <;> rfl), show aluCycles (.imm n) = 8 from rfl]
    cases op <;> rfl

@[simp] theorem defaultTaken_inc8_reg (r : R8) : defaultTaken (.inc8 (.reg r)) = 4 := by cases r <;> rfl
@[simp] theorem defaultTaken_dec8_reg (r : R8) : defaultTaken (.dec8 (.reg r)) = 4 := by cases r <;> rfl
@[simp] theorem defaultTaken_inc8_atHl : defaultTaken (.inc8 .atHl) = 12 := rfl
@[simp] theorem defaultTaken_dec8_atHl : defaultTaken (.dec8 .atHl) = 12 := rfl
@[simp] theorem defaultTaken_addHl (p : R16) : defaultTaken (.addHl p) = 8 := by cases p <;> rfl
@[simp] theorem defaultTaken_incPair (p : R16) : defaultTaken (.incPair p) = 8 := by cases p <;> rfl
@[simp] theorem defaultTaken_decPair (p : R16) : defaultTaken (.decPair p) = 8 := by cases p <;> rfl

/-- The secondary map: 16 where the operand is (HL), else 8 (R144). -/
theorem secondary_default : ∀ op2 : Byte,
    (CycleConfig.default.entry (.secondary op2)).taken = if op2.extractLsb' 0 3 = 6 then 16 else 8 := by decide

@[simp] theorem defaultTaken_rot (op : RotOp) (o : Operand8) :
    defaultTaken (.rot op o) = if o = .atHl then 16 else 8 := by
  rcases o with r | _
  · cases op <;> cases r <;> rfl
  · cases op <;> rfl

@[simp] theorem defaultTaken_bitTest (n : Fin 8) (o : Operand8) :
    defaultTaken (.bitTest n o) = if o = .atHl then 16 else 8 := by
  match n with
  | 0 | 1 | 2 | 3 | 4 | 5 | 6 | 7 => rcases o with r | _ <;> first | rfl | (cases r <;> rfl)

@[simp] theorem defaultTaken_bitRes (n : Fin 8) (o : Operand8) :
    defaultTaken (.bitRes n o) = if o = .atHl then 16 else 8 := by
  match n with
  | 0 | 1 | 2 | 3 | 4 | 5 | 6 | 7 => rcases o with r | _ <;> first | rfl | (cases r <;> rfl)

@[simp] theorem defaultTaken_bitSet (n : Fin 8) (o : Operand8) :
    defaultTaken (.bitSet n o) = if o = .atHl then 16 else 8 := by
  match n with
  | 0 | 1 | 2 | 3 | 4 | 5 | 6 | 7 => rcases o with r | _ <;> first | rfl | (cases r <;> rfl)

@[simp] theorem defaultTaken_jpCond (cc : Cond) (a : Word) : defaultTaken (.jpCond cc a) = 16 := by
  rw [defaultTaken_congr (j := .jpCond cc 0) (by cases cc <;> rfl)]; cases cc <;> rfl
@[simp] theorem defaultNotTaken_jpCond (cc : Cond) (a : Word) : defaultNotTaken (.jpCond cc a) = 12 := by
  rw [defaultNotTaken_congr (j := .jpCond cc 0) (by cases cc <;> rfl)]; cases cc <;> rfl
@[simp] theorem defaultTaken_jrCond (cc : Cond) (e : Byte) : defaultTaken (.jrCond cc e) = 12 := by
  rw [defaultTaken_congr (j := .jrCond cc 0) (by cases cc <;> rfl)]; cases cc <;> rfl
@[simp] theorem defaultNotTaken_jrCond (cc : Cond) (e : Byte) : defaultNotTaken (.jrCond cc e) = 8 := by
  rw [defaultNotTaken_congr (j := .jrCond cc 0) (by cases cc <;> rfl)]; cases cc <;> rfl
@[simp] theorem defaultTaken_callCond (cc : Cond) (a : Word) : defaultTaken (.callCond cc a) = 24 := by
  rw [defaultTaken_congr (j := .callCond cc 0) (by cases cc <;> rfl)]; cases cc <;> rfl
@[simp] theorem defaultNotTaken_callCond (cc : Cond) (a : Word) : defaultNotTaken (.callCond cc a) = 12 := by
  rw [defaultNotTaken_congr (j := .callCond cc 0) (by cases cc <;> rfl)]; cases cc <;> rfl
@[simp] theorem defaultTaken_retCond (cc : Cond) : defaultTaken (.retCond cc) = 20 := by cases cc <;> rfl
@[simp] theorem defaultNotTaken_retCond (cc : Cond) : defaultNotTaken (.retCond cc) = 8 := by cases cc <;> rfl

@[simp] theorem defaultTaken_rst (y : Fin 8) : defaultTaken (.rst y) = 16 := by
  match y with
  | 0 | 1 | 2 | 3 | 4 | 5 | 6 | 7 => rfl

/-! The instructions of no group that carry an operand; the others' counts hold by `rfl`. -/

@[simp] theorem defaultTaken_stop (n : Byte) : defaultTaken (.stop n) = 4 :=
  (defaultTaken_congr (j := .stop 0) rfl).trans rfl
@[simp] theorem defaultTaken_ldAtHlD8 (n : Byte) : defaultTaken (.ldAtHlD8 n) = 12 :=
  (defaultTaken_congr (j := .ldAtHlD8 0) rfl).trans rfl
@[simp] theorem defaultTaken_ldAtA16Sp (n : Word) : defaultTaken (.ldAtA16Sp n) = 20 :=
  (defaultTaken_congr (j := .ldAtA16Sp 0) rfl).trans rfl
@[simp] theorem defaultTaken_ldAAtA16 (n : Word) : defaultTaken (.ldAAtA16 n) = 16 :=
  (defaultTaken_congr (j := .ldAAtA16 0) rfl).trans rfl
@[simp] theorem defaultTaken_ldAtA16A (n : Word) : defaultTaken (.ldAtA16A n) = 16 :=
  (defaultTaken_congr (j := .ldAtA16A 0) rfl).trans rfl
@[simp] theorem defaultTaken_ldhAAtA8 (n : Byte) : defaultTaken (.ldhAAtA8 n) = 12 :=
  (defaultTaken_congr (j := .ldhAAtA8 0) rfl).trans rfl
@[simp] theorem defaultTaken_ldhAtA8A (n : Byte) : defaultTaken (.ldhAtA8A n) = 12 :=
  (defaultTaken_congr (j := .ldhAtA8A 0) rfl).trans rfl
@[simp] theorem defaultTaken_addSpE8 (n : Byte) : defaultTaken (.addSpE8 n) = 16 :=
  (defaultTaken_congr (j := .addSpE8 0) rfl).trans rfl
@[simp] theorem defaultTaken_ldHlSpE8 (n : Byte) : defaultTaken (.ldHlSpE8 n) = 12 :=
  (defaultTaken_congr (j := .ldHlSpE8 0) rfl).trans rfl
@[simp] theorem defaultTaken_jpA16 (n : Word) : defaultTaken (.jpA16 n) = 16 :=
  (defaultTaken_congr (j := .jpA16 0) rfl).trans rfl
@[simp] theorem defaultTaken_jrE8 (n : Byte) : defaultTaken (.jrE8 n) = 12 :=
  (defaultTaken_congr (j := .jrE8 0) rfl).trans rfl
@[simp] theorem defaultTaken_callA16 (n : Word) : defaultTaken (.callA16 n) = 24 :=
  (defaultTaken_congr (j := .callA16 0) rfl).trans rfl

/-! ## What finishing costs -/

/-- The state `finish` answers after an effect that leaves the cycle parameters costs the slot's taken count. -/
theorem Costs.of_finish {i : Instr} {n : Nat} {s u : State} (hu : u.timing = s.timing) (hn : defaultTaken i = n) :
    Costs i n s (u.setCycles (u.timing.entry i.slot).taken) := ⟨by rw [hu]; rfl, hn⟩

/-- The state `finishNotTaken` answers costs the slot's not-taken count. -/
theorem CostsNotTaken.of_finish {i : Instr} {n : Nat} {s : State} (hn : defaultNotTaken i = n) :
    CostsNotTaken i n s (s.setCycles (s.timing.entry i.slot).notTaken) := ⟨rfl, hn⟩

/-- A quiet step that finishes costs its slot's taken count. -/
theorem Quiet.costs {i : Instr} {n : Nat} {s u : State} (h : Quiet s u) (hn : defaultTaken i = n) :
    Costs i n s (u.setCycles (u.timing.entry i.slot).taken) := .of_finish h.frame.timing hn

end Sys2Proof.Machine
end

