-- ==== Sys2Proof/Laws/Decode.lean ====
section
/-! SUPPORT. Sys2Proof/Laws/Decode.lean: what decoding does for each kind of slot of the primary map
(spec/30_encoding.md R54, R55, R59), and that encoding a decoded instruction gives back its bytes. -/

namespace Sys2Proof

/-- A one-byte instruction. -/
theorem decode_op {b : Byte} {i : Instr} (h : primarySlot b = .op i) (rest : List Byte) :
    decode (b :: rest) = .ok (i, rest) := by
  simp [decode, decodeBytes, instrLength, h, Slot.length]

/-- An instruction with one immediate byte. -/
theorem decode_n8 {b : Byte} {f : Byte → Instr} (h : primarySlot b = .n8 f) (n : Byte) (rest : List Byte) :
    decode (b :: n :: rest) = .ok (f n, rest) := by
  simp [decode, decodeBytes, instrLength, h, Slot.length]

/-- An instruction with a 16-bit immediate. -/
theorem decode_n16 {b : Byte} {f : Word → Instr} (h : primarySlot b = .n16 f) (lo hi : Byte) (rest : List Byte) :
    decode (b :: lo :: hi :: rest) = .ok (f (wordOf lo hi), rest) := by
  simp [decode, decodeBytes, instrLength, h, Slot.length]

/-- The escape and a secondary opcode (R193). -/
theorem decode_escape (op2 : Byte) (rest : List Byte) :
    decode (0xCB :: op2 :: rest) = .ok (secondaryInstr op2, rest) := by
  have h : primarySlot 203#8 = .escape := rfl
  simp [decode, decodeBytes, instrLength, h, Slot.length]

/-- A 16-bit immediate written low byte first is read back (R46). -/
theorem decode_n16_word {b : Byte} {f : Word → Instr} (h : primarySlot b = .n16 f) (w : Word) (rest : List Byte) :
    decode (b :: loByte w :: hiByte w :: rest) = .ok (f w, rest) := by
  rw [decode_n16 h, Machine.wordOf_lo_hi]

/-- What is read from three bytes and the bytes after them. -/
theorem decode_three (b0 b1 b2 : Byte) (rest : List Byte) :
    decode (b0 :: b1 :: b2 :: rest) =
      .ok (decodeBytes b0 b1 b2, (b0 :: b1 :: b2 :: rest).drop (instrLength b0)) := by
  cases h : primarySlot b0 <;> simp [decode, instrLength, h, Slot.length]

end Sys2Proof
end

