-- ==== Sys2Proof/Laws/Step.lean ====
section
/-! SUPPORT. Sys2Proof/Laws/Step.lean: said once, what a CPU step and a system step can do (spec/60_exceptions.md R196,
R203): the cases of each, and what each leaves. -/

namespace Sys2Proof.Machine

/-- A CPU step answers a next state in one of three ways (R196): idle, a dispatch, or one instruction; and only when no
fault is recorded. -/
theorem cpuStep_cases {wake : Bool} {s t : State} (h : cpuStep wake s = .next t) :
    s.faultRec = none ∧
    ((s.staysIdle wake = true ∧ t = s.idle) ∨
     (s.staysIdle wake = false ∧ ∃ i, s.interruptTaken = some i ∧ t = s.wake.dispatchStep i) ∨
     (s.staysIdle wake = false ∧ s.interruptTaken = none ∧
       ∃ u, exec s.wake.instrAt s.wake.afterFetch = .next u ∧ t = u.endInstruction)) := by
  have hint : s.wake.interruptTaken = s.interruptTaken := rfl
  unfold cpuStep at h
  split at h
  · cases h
  · rename_i hf
    refine ⟨hf, ?_⟩
    split at h
    · rename_i hi; cases h; exact .inl ⟨hi, rfl⟩
    · rename_i hi
      have hi : s.staysIdle wake = false := by simpa using hi
      split at h
      · rename_i i he; cases h; exact .inr (.inl ⟨hi, i, hint ▸ he, rfl⟩)
      · rename_i he
        obtain ⟨u, hu, -⟩ := exec_frame s.wake.instrAt s.wake.afterFetch
        rw [runInstruction, hu] at h
        cases h
        exact .inr (.inr ⟨hi, hint ▸ he, u, hu, rfl⟩)

/-- A core that stays halted or stopped idles (R196). -/
theorem cpuStep_idle {wake : Bool} {s : State} (hf : s.faultRec = none) (h : s.staysIdle wake = true) :
    cpuStep wake s = .next s.idle := by
  simp [cpuStep, hf, h]

/-- An enabled, pending interrupt is dispatched (R196). -/
theorem cpuStep_dispatch {wake : Bool} {s : State} {i : IntSource} (hf : s.faultRec = none)
    (h : s.staysIdle wake = false) (hi : s.interruptTaken = some i) :
    cpuStep wake s = .next (s.wake.dispatchStep i) := by
  have hi' : s.wake.interruptTaken = some i := hi
  simp [cpuStep, hf, h, hi']

/-- Otherwise one instruction runs (R196). -/
theorem cpuStep_run {wake : Bool} {s : State} (hf : s.faultRec = none) (h : s.staysIdle wake = false)
    (hi : s.interruptTaken = none) : cpuStep wake s = runInstruction s.wake := by
  have hi' : s.wake.interruptTaken = none := hi
  simp [cpuStep, hf, h, hi']

/-- A CPU step never refuses, and faults only with the recorded fault (R197). -/
theorem cpuStep_outcome (wake : Bool) (s : State) :
    (∃ t, cpuStep wake s = .next t) ∨ ∃ r, s.faultRec = some r ∧ cpuStep wake s = .fault (.faulted r) := by
  unfold cpuStep
  split
  · rename_i r hr; exact .inr ⟨r, hr, rfl⟩
  · left
    split
    · exact ⟨_, rfl⟩
    · split
      · exact ⟨_, rfl⟩
      · obtain ⟨u, hu, -⟩ := exec_frame s.wake.instrAt s.wake.afterFetch
        exact ⟨u.endInstruction, by rw [runInstruction, hu]; rfl⟩

/-- The system step around a CPU step that answers a next state (R203). -/
theorem step_of_cpuStep {s u : State} (h : cpuStep s.nextInput.stopWake s.latchInput = .next u) :
    step s = .next u.ppuPart := by
  rw [step, systemStep, h]

/-- The system step of a core whose fault is recorded latches the inputs and does no more (R197, R203). -/
theorem step_faulted {s : State} {r : FaultRec} (h : s.faultRec = some r) : step s = .next s.latchInput := by
  have h' : s.latchInput.faultRec = some r := h
  simp only [step, systemStep, cpuStep, h']

/-- Every system step answers a next state: a CPU step that did, with the PPU's part after it, or the latched state of a
core whose fault is recorded (R203). -/
theorem step_cases {s t : State} (h : step s = .next t) :
    (s.faultRec = none ∧ ∃ u, cpuStep s.nextInput.stopWake s.latchInput = .next u ∧ t = u.ppuPart) ∨
    (s.faultRec ≠ none ∧ t = s.latchInput) := by
  rcases cpuStep_outcome s.nextInput.stopWake s.latchInput with ⟨u, hu⟩ | ⟨r, hr, -⟩
  · rw [step_of_cpuStep hu] at h; cases h
    exact .inl ⟨(cpuStep_cases hu).1, u, hu, rfl⟩
  · have hr : s.faultRec = some r := hr
    rw [step_faulted hr] at h; cases h
    exact .inr ⟨by simp [hr], rfl⟩

/-! ## What each part leaves -/

theorem State.takeInterrupt_memStep (s : State) (i : IntSource) : MemStep s.mem (s.takeInterrupt i).mem :=
  State.push16_memStep s s.pc

/-- No CPU step changes the cycle parameters (R8). -/
theorem cpuStep_timing {wake : Bool} {s t : State} (h : cpuStep wake s = .next t) : t.timing = s.timing := by
  obtain ⟨-, ⟨-, rfl⟩ | ⟨-, i, -, rfl⟩ | ⟨-, -, u, hu, rfl⟩⟩ := cpuStep_cases h
  · rfl
  · simp
  · obtain ⟨v, hv, hframe, -⟩ := exec_frame s.wake.instrAt s.wake.afterFetch
    rw [hu] at hv; cases hv
    simpa using hframe.timing

/-- The backing array after a CPU step comes from bus writes (R39). -/
theorem cpuStep_memStep {wake : Bool} {s t : State} (h : cpuStep wake s = .next t) : MemStep s.mem t.mem := by
  obtain ⟨-, ⟨-, rfl⟩ | ⟨-, i, -, rfl⟩ | ⟨-, -, u, hu, rfl⟩⟩ := cpuStep_cases h
  · exact .refl _
  · exact State.takeInterrupt_memStep s.wake i
  · obtain ⟨v, hv, hframe, -⟩ := exec_frame s.wake.instrAt s.wake.afterFetch
    rw [hu] at hv; cases hv
    simpa using hframe.mem

@[simp] theorem State.ppuPart_mem (s : State) : s.ppuPart.mem = s.mem := by
  unfold State.ppuPart; split <;> simp

@[simp] theorem State.ppuPart_f (s : State) : s.ppuPart.f = s.f := by
  unfold State.ppuPart; split <;> simp

@[simp] theorem State.ppuPart_pc (s : State) : s.ppuPart.pc = s.pc := by
  unfold State.ppuPart; split <;> simp

@[simp] theorem State.ppuPart_ime (s : State) : s.ppuPart.ime = s.ime := by
  unfold State.ppuPart; split <;> simp

@[simp] theorem State.ppuPart_eiDelay (s : State) : s.ppuPart.eiDelay = s.eiDelay := by
  unfold State.ppuPart; split <;> simp

@[simp] theorem State.ppuPart_power (s : State) : s.ppuPart.power = s.power := by
  unfold State.ppuPart; split <;> simp

@[simp] theorem State.ppuPart_timing (s : State) : s.ppuPart.timing = s.timing := by
  unfold State.ppuPart; split <;> simp

@[simp] theorem State.ppuPart_faultRec (s : State) : s.ppuPart.faultRec = s.faultRec := by
  unfold State.ppuPart; split <;> simp

/-- No system step changes the cycle parameters (R8). -/
theorem step_timing {s t : State} (h : step s = .next t) : t.timing = s.timing := by
  rcases step_cases h with ⟨-, u, hu, rfl⟩ | ⟨-, rfl⟩
  · rw [State.ppuPart_timing, cpuStep_timing hu]; rfl
  · rfl

/-- `EiTick()` sets IME only from EiDelay = 1 (R192). -/
theorem State.endInstruction_ime {s : State} (h : s.endInstruction.ime = true) : s.ime = true ∨ s.eiDelay = 1 := by
  unfold State.endInstruction State.eiTick at h
  split at h
  · exact .inl h
  · split at h
    · exact .inl h
    · split at h
      · exact .inr ‹_›
      · exact .inl h

end Sys2Proof.Machine
end

