-- ==== Sys2Proof/Tests/Slice0.lean ====
section
/-! SUPPORT. Sys2Proof/Tests/Slice0.lean: the WellFormed smoke test, words written out from the rules' encodings and what
they decode to, one step of each kind of instruction, and a witness for every statement that has hypotheses. Expected
values come from the examples at the end of the rules and from the tables of spec/95_test_vectors.md, whose rows are
named in the comments; none was taken from the model. -/

namespace Sys2Proof.Tests

open Sys2Proof Sys2Proof.Machine

/-- The start state of the vectors: reset, with PC in work RAM. -/
def base : State := { State.reset with pc := 0xC000 }

/-- The state an instruction leaves. -/
def after (i : Instr) (s : State) : State :=
  match exec i s with
  | .next t => t
  | _ => s

/-- The state with bytes stored from PC on. -/
def withCode (bytes : List Byte) (s : State) : State := s.install s.pc.toNat bytes

/-- The state one CPU step leaves. -/
def cpu (s : State) : State :=
  match cpuStep false s with
  | .next t => t
  | _ => s

/-- The state one system step leaves. -/
def sys (s : State) : State :=
  match step s with
  | .next t => t
  | _ => s

/-- HL. -/
def withHl (v : Word) (s : State) : State := s.setHl v

/-! ## WellFormed -/

/-- The one check: the escape row is no instruction of its own. -/
theorem test_wellFormed_refuses_escape : (Instr.prefixCb 0x00).wellFormed = false := by decide
theorem test_wellFormed_accepts_secondary : Instr.rlcB.wellFormed = true := by decide

/-! ## Decoding, from the encodings of the rules -/

theorem test_decode_ldAB : decodeTableWord 8 0b01111000 = some (.ldAB) := by decide  -- R67
theorem test_decode_ldCD8 : decodeTableWord 16 0b0101101000001110 = some (.ldCD8 0x5A) := by decide  -- R68
theorem test_decode_ldEAtHl : decodeTableWord 8 0b01011110 = some (.ldEAtHl) := by decide  -- R69
theorem test_decode_ldAtHlA : decodeTableWord 8 0b01110111 = some (.ldAtHlA) := by decide  -- R70
theorem test_decode_ldAtHlD8 : decodeTableWord 16 0b0111111000110110 = some (.ldAtHlD8 0x7E) := by decide  -- R71
theorem test_decode_ldAAtHlDec : decodeTableWord 8 0b00111010 = some (.ldAAtHlDec) := by decide  -- R75
theorem test_decode_ldAAtA16 : decodeTableWord 24 0b110000110000000011111010 = some (.ldAAtA16 0xC300) := by decide  -- R80
theorem test_decode_ldhAAtA8 : decodeTableWord 16 0b0100010011110000 = some (.ldhAAtA8 0x44) := by decide  -- R82
theorem test_decode_ldHlD16 : decodeTableWord 24 0b110000000000000000100001 = some (.ldHlD16 0xC000) := by decide  -- R88
theorem test_decode_ldAtA16Sp : decodeTableWord 24 0b110000010000000000001000 = some (.ldAtA16Sp 0xC100) := by decide  -- R89
theorem test_decode_pushBc : decodeTableWord 8 0b11000101 = some (.pushBc) := by decide  -- R91
theorem test_decode_popAf : decodeTableWord 8 0b11110001 = some (.popAf) := by decide  -- R93
theorem test_decode_adcAE : decodeTableWord 8 0b10001011 = some (.adcAE) := by decide  -- R106
theorem test_decode_cpD8 : decodeTableWord 16 0b0011110011111110 = some (.cpD8 0x3C) := by decide  -- R126
theorem test_decode_decAtHl : decodeTableWord 8 0b00110101 = some (.decAtHl) := by decide  -- R130
theorem test_decode_addHlSp : decodeTableWord 8 0b00111001 = some (.addHlSp) := by decide  -- R135
theorem test_decode_addSpE8 : decodeTableWord 16 0b0000100011101000 = some (.addSpE8 0x08) := by decide  -- R138
theorem test_decode_rra : decodeTableWord 8 0b00011111 = some (.rra) := by decide  -- R143
theorem test_decode_bit7H : decodeTableWord 16 0b0111110011001011 = some (.bit7H) := by decide  -- R169
theorem test_decode_set1E : decodeTableWord 16 0b1100101111001011 = some (.set1E) := by decide  -- R193
theorem test_decode_jpNcA16 : decodeTableWord 24 0b000000110000000011010010 = some (.jpNcA16 0x0300) := by decide  -- R176
theorem test_decode_jrCE8 : decodeTableWord 16 0b1111000000111000 = some (.jrCE8 0xF0) := by decide  -- R179
theorem test_decode_callA16 : decodeTableWord 24 0b001100000000000011001101 = some (.callA16 0x3000) := by decide  -- R180
theorem test_decode_rst38 : decodeTableWord 8 0b11111111 = some (.rst38) := by decide  -- R182
theorem test_decode_retZ : decodeTableWord 8 0b11001000 = some (.retZ) := by decide  -- R184
theorem test_decode_stop : decodeTableWord 16 0b1111111100010000 = some (.stop 0xFF) := by decide  -- R189
theorem test_decode_halt : decodeTableWord 8 0b01110110 = some (.halt) := by decide  -- R188
theorem test_decode_illegalFD : decodeTableWord 8 0b11111101 = some (.illegalFD) := by decide  -- R194

/-- A word of zeros above `nbits`: the operand bytes the table does not list are 0. -/
theorem test_decode_short_word : decodeTableWord 8 0b00100001 = some (.ldHlD16 0) := by decide
theorem test_decode_truncated : (match decode [0x21, 0x00] with | .error .truncated => true | _ => false) = true := by decide

/-! ## Loads (the examples of R67 to R93) -/

theorem test_ld_a_b : (after .ldAB { base with b := 0x12 }).a = 0x12 := by decide  -- R67
theorem test_ld_c_d8 : (after (.ldCD8 0x5A) base).c = 0x5A := by decide  -- R68
theorem test_ld_h_at_hl :
    (after .ldHAtHl ((withHl 0xC100 base).setMem 0xC100 0x12)).hl = 0x1200 := by decide  -- V-L8-02
theorem test_ld_at_hl_h : (after .ldAtHlH (withHl 0xC1C1 base)).busRead 0xC1C1 = 0xC1 := by decide  -- V-L8-03
theorem test_ld_at_hl_rom :
    (after .ldAtHlA (withHl 0x0005 { base with a := 0x77 })).events = [.ignoredWrite 0x0005 0x77] := by decide  -- V-L8-04
theorem test_ld_at_hl_d8_if : (after (.ldAtHlD8 0xE4) (withHl 0xFF0F base)).ifReg = 0x04 := by decide  -- V-L8-17
theorem test_ld_at_hl_inc_a :
    let t := after .ldAtHlIncA (withHl 0xFFFF { base with a := 0x1F }); t.ie = 0x1F ∧ t.hl = 0x0000 := by decide  -- V-L8-05
theorem test_ld_at_hl_dec_a :
    let t := after .ldAtHlDecA (withHl 0xDFFF base); t.busRead 0xDFFF = 0x01 ∧ t.hl = 0xDFFE := by decide  -- R73
theorem test_ld_a_at_hl_inc :
    let t := after .ldAAtHlInc ((withHl 0xC000 base).setMem 0xC000 0x42); t.a = 0x42 ∧ t.hl = 0xC001 := by decide  -- R74
theorem test_ld_a_at_hl_dec :
    let t := after .ldAAtHlDec ((withHl 0x0000 base).setMem 0x0000 0x31); t.a = 0x31 ∧ t.hl = 0xFFFF := by decide  -- V-L8-06
theorem test_ld_a_at_bc :
    (after .ldAAtBc ({ base with b := 0xC1, c := 0x23 }.setMem 0xC123 0xAB)).a = 0xAB := by decide  -- R76
theorem test_ld_a_at_de :
    (after .ldAAtDe ({ base with d := 0x01, e := 0x50 }.setMem 0x0150 0x3E)).a = 0x3E := by decide  -- R77
theorem test_ld_at_bc_a :
    (after .ldAtBcA { base with a := 0x55, b := 0xC2, c := 0x00 }).busRead 0xC200 = 0x55 := by decide  -- R78
theorem test_ld_at_de_a :
    (after .ldAtDeA { base with a := 0x66, d := 0xC2, e := 0x01 }).busRead 0xC201 = 0x66 := by decide  -- R79
theorem test_ld_a_at_a16_unmapped :
    (after (.ldAAtA16 0xE000) (base.setMem 0xE000 0x55)).a = 0x00 := by decide  -- V-L8-07
theorem test_ld_at_a16_a_ie : (after (.ldAtA16A 0xFFFF) { base with a := 0x08 }).ie = 0x08 := by decide  -- R81
theorem test_ld_at_a16_a_device :
    (after (.ldAtA16A 0xFF04) { base with a := 0x3C }).events = [.periphWrite 0xFF04 0x3C] := by decide  -- V-L8-15, R204
theorem test_ldh_a_ly : (after (.ldhAAtA8 0x44) { base with line := 0x90 }).a = 0x90 := by decide  -- R82
theorem test_ldh_a_if : (after (.ldhAAtA8 0x0F) { base with ifReg := 0x05 }).a = 0xE5 := by decide  -- V-L8-11
theorem test_ldh_stat :
    let t := after (.ldhAtA8A 0x41) { base with a := 0xFF }; t.mem.get 0xFF41 = 0xFC ∧ t.busRead 0xFF41 = 0xFE := by decide  -- V-L8-10
theorem test_ld_a_at_c : (after .ldAAtC ({ base with c := 0x80 }.setMem 0xFF80 0x12)).a = 0x12 := by decide  -- R84
theorem test_ld_at_c_a : (after .ldAtCA { base with a := 0x15, c := 0xFF }).ie = 0x15 := by decide  -- V-L8-13
theorem test_ld_sp_d16 : (after (.ldSpD16 0xFFFF) base).sp = 0xFFFF := by decide  -- V-L16-01
theorem test_ld_at_a16_sp :
    let t := after (.ldAtA16Sp 0xFFFF) { base with sp := 0xABCD };
    t.ie = 0xCD ∧ t.events = [.ignoredWrite 0x0000 0xAB] := by decide  -- V-L16-07
theorem test_ld_sp_hl : (after .ldSpHl (withHl 0xDFF0 base)).sp = 0xDFF0 := by decide  -- R90
theorem test_push_bc :
    let t := after .pushBc { base with b := 0x12, c := 0x34, sp := 0x0000 };
    t.ie = 0x12 ∧ t.busRead 0xFFFE = 0x34 ∧ t.sp = 0xFFFE := by decide  -- V-L16-05
theorem test_push_af :
    let t := after .pushAf { base with a := 0x12, f := 0xF0, sp := 0xD000 };
    t.busRead 0xCFFF = 0x12 ∧ t.busRead 0xCFFE = 0xF0 ∧ t.sp = 0xCFFE := by decide  -- V-L16-02
theorem test_pop_hl :
    let t := after .popHl { base with sp := 0xFFFF, ie := 0x1F }; t.hl = 0x001F ∧ t.sp = 0x0001 := by decide  -- V-L16-06
theorem test_pop_af :
    let t := after .popAf (({ base with sp := 0xD000 }.setMem 0xD000 0x0F).setMem 0xD001 0xAB); t.a = 0xAB ∧ t.f = 0x00 := by decide  -- V-L16-03

/-! ## 8-bit arithmetic and logic -/

/-- A, F and the cycles after an instruction. -/
def afc (i : Instr) (a f : Byte) (s : State) : Byte × Byte × Nat :=
  let t := after i { s with a := a, f := f }
  (t.a, t.f, t.cycles)

/-- HL at 0xC100 with a byte there. -/
def atHl (v : Byte) : State := (withHl 0xC100 base).setMem 0xC100 v

theorem test_add_a_a : afc .addAA 0x0F 0x00 base = (0x1E, 0x20, 4) := by decide  -- S4
theorem test_add_a_b : afc .addAB 0xFF 0x00 { base with b := 0x01 } = (0x00, 0xB0, 4) := by decide  -- V-A8-01
theorem test_add_a_at_hl : afc .addAAtHl 0x3A 0x00 (atHl 0xC6) = (0x00, 0xB0, 8) := by decide  -- R104
theorem test_add_a_d8 : afc (.addAD8 0x10) 0xF0 0x00 base = (0x00, 0x90, 8) := by decide  -- R105
theorem test_adc_a_b : afc .adcAB 0x0F 0x10 { base with b := 0x00 } = (0x10, 0x20, 4) := by decide  -- V-A8-04
theorem test_adc_a_at_hl : afc .adcAAtHl 0xE1 0x10 (atHl 0x1E) = (0x00, 0xB0, 8) := by decide  -- R107
theorem test_adc_a_d8 : afc (.adcAD8 0x3B) 0xE1 0x10 base = (0x1D, 0x10, 8) := by decide  -- R108
theorem test_sub_b : afc .subB 0x00 0x00 { base with b := 0x01 } = (0xFF, 0x70, 4) := by decide  -- V-A8-08
theorem test_sub_a : afc .subA 0x5C 0x30 base = (0x00, 0xC0, 4) := by decide  -- V-A8-09
theorem test_sub_at_hl : afc .subAtHl 0x3E 0x00 (atHl 0x40) = (0xFE, 0x50, 8) := by decide  -- R110
theorem test_sub_d8 : afc (.subD8 0x0F) 0x3E 0x00 base = (0x2F, 0x60, 8) := by decide  -- R111
theorem test_sbc_a_b : afc .sbcAB 0x10 0x10 { base with b := 0x0F } = (0x00, 0xE0, 4) := by decide  -- V-A8-11
theorem test_sbc_a_a : afc .sbcAA 0x42 0x10 base = (0xFF, 0x70, 4) := by decide  -- V-A8-12
theorem test_sbc_a_at_hl : afc .sbcAAtHl 0x3B 0x10 (atHl 0x4F) = (0xEB, 0x70, 8) := by decide  -- R113
theorem test_sbc_a_d8 : afc (.sbcAD8 0x3A) 0x3B 0x10 base = (0x00, 0xC0, 8) := by decide  -- R114
theorem test_and_b : afc .andB 0xF0 0x50 { base with b := 0x0F } = (0x00, 0xA0, 4) := by decide  -- V-A8-14
theorem test_and_d8 : afc (.andD8 0x38) 0x5A 0x00 base = (0x18, 0x20, 8) := by decide  -- R117
theorem test_xor_b : afc .xorB 0x01 0x70 { base with b := 0x01 } = (0x00, 0x80, 4) := by decide  -- V-A8-15
theorem test_xor_at_hl : afc .xorAtHl 0xFF 0x00 (atHl 0x8A) = (0x75, 0x00, 8) := by decide  -- R119
theorem test_or_b : afc .orB 0x00 0x10 { base with b := 0x80 } = (0x80, 0x00, 4) := by decide  -- V-A8-16
theorem test_or_at_hl : afc .orAtHl 0x5A 0x00 (atHl 0x0F) = (0x5F, 0x00, 8) := by decide  -- R122
theorem test_cp_b : afc .cpB 0x3C 0x00 { base with b := 0x2F } = (0x3C, 0x60, 4) := by decide  -- R124
theorem test_cp_at_hl :
    afc .cpAtHl 0xE0 0x00 (withHl 0xFF0F { base with ifReg := 0x00 }) = (0xE0, 0xC0, 8) := by decide  -- V-A8-18
theorem test_cp_d8 : afc (.cpD8 0x3C) 0x3C 0x00 base = (0x3C, 0xC0, 8) := by decide  -- R126
theorem test_inc_a : afc .incA 0xFF 0x10 base = (0x00, 0xB0, 4) := by decide  -- V-A8-20
theorem test_dec_a : afc .decA 0x10 0x00 base = (0x0F, 0x60, 4) := by decide  -- V-A8-23
theorem test_inc_at_hl :
    let t := after .incAtHl ((withHl 0x0005 { base with f := 0x00 }).setMem 0x0005 0x42);
    t.events = [.ignoredWrite 0x0005 0x43] ∧ t.f = 0x00 ∧ t.cycles = 12 := by decide  -- V-A8-24
theorem test_dec_at_hl :
    let t := after .decAtHl (withHl 0xFF0F { base with ifReg := 0x00, f := 0x10 }); t.ifReg = 0x1F ∧ t.f = 0x70 := by decide  -- V-A8-25
theorem test_daa_add : afc .daa 0x9A 0x00 base = (0x00, 0x90, 4) := by decide  -- V-A8-26
theorem test_daa_sub : afc .daa 0xFF 0x70 base = (0x99, 0x50, 4) := by decide  -- the DAA of V-A8-31
theorem test_cpl : afc .cpl 0x00 0x90 base = (0xFF, 0xF0, 4) := by decide  -- V-A8-33
theorem test_scf : afc .scf 0x00 0x60 base = (0x00, 0x10, 4) := by decide  -- V-A8-34
theorem test_ccf : afc .ccf 0x00 0x90 base = (0x00, 0x80, 4) := by decide  -- V-A8-36

/-! ## 16-bit arithmetic -/

theorem test_add_hl_de :
    let t := after .addHlDe (withHl 0xFFFF { base with d := 0x00, e := 0x01, f := 0x80 });
    t.hl = 0x0000 ∧ t.f = 0xB0 := by decide  -- V-A16-01
theorem test_add_hl_bc :
    let t := after .addHlBc (withHl 0x0FFF { base with b := 0x00, c := 0x01, f := 0x40 });
    t.hl = 0x1000 ∧ t.f = 0x20 := by decide  -- V-A16-02
theorem test_inc_sp :
    let t := after .incSp { base with sp := 0xFFFF, f := 0xF0 }; t.sp = 0x0000 ∧ t.f = 0xF0 := by decide  -- V-A16-04
theorem test_dec_hl : (after .decHl (withHl 0x0000 base)).hl = 0xFFFF := by decide  -- V-A16-05
theorem test_add_sp_e8 :
    let t := after (.addSpE8 0xFF) { base with sp := 0xD0FF, f := 0x00 }; t.sp = 0xD0FE ∧ t.f = 0x30 := by decide  -- V-A16-09
theorem test_ld_hl_sp_e8 :
    let t := after (.ldHlSpE8 0x01) { base with sp := 0xFFFF }; t.hl = 0x0000 ∧ t.f = 0x30 ∧ t.sp = 0xFFFF := by decide  -- V-A16-10

/-! ## Rotates, shifts and single bits -/

theorem test_rlca : afc .rlca 0x85 0x00 base = (0x0B, 0x10, 4) := by decide  -- R140
theorem test_rrca : afc .rrca 0x00 0xF0 base = (0x00, 0x00, 4) := by decide  -- V-RB-04
theorem test_rla : afc .rla 0x95 0x10 base = (0x2B, 0x10, 4) := by decide  -- R142
theorem test_rra : afc .rra 0x01 0x10 base = (0x80, 0x10, 4) := by decide  -- V-RB-03
theorem test_rlc_a : afc .rlcA 0x80 0x00 base = (0x01, 0x10, 8) := by decide  -- V-RB-05
theorem test_rr_a : afc .rrA 0x00 0x10 base = (0x80, 0x00, 8) := by decide  -- V-RB-07
theorem test_sla_a : afc .slaA 0x80 0x00 base = (0x00, 0x90, 8) := by decide  -- V-RB-08
theorem test_sra_a : afc .sraA 0x81 0x00 base = (0xC0, 0x10, 8) := by decide  -- V-RB-09
theorem test_srl_a : afc .srlA 0x80 0x10 base = (0x40, 0x00, 8) := by decide  -- V-RB-10
theorem test_swap_a : afc .swapA 0xF0 0x10 base = (0x0F, 0x00, 8) := by decide  -- R164
theorem test_rrc_c :
    let t := after .rrcC { base with c := 0x01, f := 0x00 }; t.c = 0x80 ∧ t.f = 0x10 := by decide  -- R149
theorem test_rl_c :
    let t := after .rlC { base with c := 0x80, f := 0x00 }; t.c = 0x00 ∧ t.f = 0x90 := by decide  -- V-RB-06
theorem test_swap_at_hl :
    let t := after .swapAtHl { atHl 0x0F with f := 0x10 }; t.busRead 0xC100 = 0xF0 ∧ t.f = 0x00 ∧ t.cycles = 16 := by decide  -- V-RB-20
theorem test_bit_7_a :
    let t := after .bit7A { base with a := 0x7F, f := 0x10 }; t.f = 0xB0 ∧ t.cycles = 8 := by decide  -- V-RB-12
theorem test_bit_0_at_hl :
    let t := after .bit0AtHl { atHl 0x01 with f := 0xD0 }; t.f = 0x30 ∧ t.cycles = 16 := by decide  -- V-RB-13
theorem test_res_7_at_hl : (after .res7AtHl (withHl 0xFFFF { base with ie := 0xFF })).ie = 0x7F := by decide  -- V-RB-14
theorem test_res_5_l :
    let t := after .res5L { base with l := 0xFF, f := 0xF0 }; t.l = 0xDF ∧ t.f = 0xF0 := by decide  -- V-RB-19
theorem test_set_0_at_hl :
    (after .set0AtHl (withHl 0x0005 base)).events = [.ignoredWrite 0x0005 0x01] := by decide  -- V-RB-15
theorem test_set_3_d : let t := after .set3D { base with d := 0x00 }; t.d = 0x08 ∧ t.cycles = 8 := by decide  -- V-RB-18

/-! ## Control transfer: one CPU step, the bytes stored at PC -/

theorem test_jp_z_taken :
    let t := cpu (withCode [0xCA, 0x00, 0x30] { base with f := 0x80 }); t.pc = 0x3000 ∧ t.cycles = 16 := by decide  -- V-CT-01
theorem test_jp_z_not_taken :
    let t := cpu (withCode [0xCA, 0x00, 0x30] { base with f := 0x00 }); t.pc = 0xC003 ∧ t.cycles = 12 := by decide  -- V-CT-02
theorem test_jp_hl :
    let t := cpu (withCode [0xE9] (withHl 0x4000 base)); t.pc = 0x4000 ∧ t.cycles = 4 := by decide  -- V-CT-16
theorem test_jr_backward : (cpu (withCode [0x18, 0x80] base)).pc = 0xBF82 := by decide  -- V-CT-06
theorem test_jr_operand_at_ie :
    (cpu ({ base with pc := 0xFFFE, ie := 0x05 }.setMem 0xFFFE 0x18)).pc = 0x0005 := by decide  -- V-CT-11
theorem test_jr_c_taken :
    let t := cpu (withCode [0x38, 0xF0] { base with f := 0x10 }); t.pc = 0xBFF2 ∧ t.cycles = 12 := by decide  -- V-CT-10
theorem test_jr_nc_not_taken :
    let t := cpu (withCode [0x30, 0x10] { base with f := 0x10 }); t.pc = 0xC002 ∧ t.cycles = 8 := by decide  -- V-CT-09
theorem test_call_wraps :
    let t := cpu (({ base with pc := 0xFFFE, sp := 0xD000 }.setMem 0xFFFE 0xCD).setMem 0x0000 0x30);
    t.pc = 0x3000 ∧ t.sp = 0xCFFE ∧ t.busRead 0xCFFE = 0x01 ∧ t.busRead 0xCFFF = 0x00 := by decide  -- V-CT-17
theorem test_call_nz_taken :
    let t := cpu (withCode [0xC4, 0x00, 0x30] { base with f := 0x00, sp := 0xD000 });
    t.pc = 0x3000 ∧ t.busRead 0xCFFE = 0x03 ∧ t.busRead 0xCFFF = 0xC0 ∧ t.cycles = 24 := by decide  -- V-CT-12
theorem test_call_nc_not_taken :
    let t := cpu (withCode [0xD4, 0x00, 0x30] { base with f := 0x10, sp := 0xD000 });
    t.pc = 0xC003 ∧ t.sp = 0xD000 ∧ t.cycles = 12 := by decide  -- V-CT-13
theorem test_rst_28 :
    let t := cpu (withCode [0xEF] { base with sp := 0xD000 });
    t.pc = 0x0028 ∧ t.busRead 0xCFFF = 0xC0 ∧ t.busRead 0xCFFE = 0x01 ∧ t.cycles = 16 := by decide  -- V-RST-5
theorem test_ret_c_taken :
    let t := cpu (withCode [0xD8] (({ base with f := 0x10, sp := 0xD000 }.setMem 0xD000 0x34).setMem 0xD001 0x12));
    t.pc = 0x1234 ∧ t.sp = 0xD002 ∧ t.cycles = 20 := by decide  -- V-CT-14
theorem test_ret_nc_not_taken :
    let t := cpu (withCode [0xD0] { base with f := 0x10, sp := 0xD000 });
    t.pc = 0xC001 ∧ t.sp = 0xD000 ∧ t.cycles = 8 := by decide  -- V-CT-15
theorem test_reti :
    let t := cpu (withCode [0xD9] ({ base with sp := 0xCFFE }.setMem 0xCFFF 0xC1));
    t.pc = 0xC100 ∧ t.sp = 0xD000 ∧ t.ime = true ∧ t.cycles = 16 := by decide  -- the RETI of V-IN-09

/-! ## System instructions, interrupts, the fault and the step -/

theorem test_halt :
    let t := cpu (withCode [0x76] base); t.power = .halted ∧ t.pc = 0xC001 ∧ t.cycles = 4 := by decide  -- R188
theorem test_halt_stays :
    let t := cpu { base with power := .halted, ime := true, ifReg := 0x1F }; t.power = .halted ∧ t.pc = 0xC000 ∧ t.cycles = 4 := by decide  -- V-SY-03
theorem test_halt_wakes_without_dispatch :
    let t := cpu (withCode [0x3C] { base with power := .halted, ie := 0x01 }); t.a = 0x02 ∧ t.pc = 0xC001 ∧ t.power = .run := by decide  -- V-SY-04
theorem test_stop_wakes_by_input :
    (match cpuStep true (withCode [0x3C] { base with power := .stopped, ifReg := 0 }) with
      | .next t => t.power == .run && t.a == 0x02
      | _ => false) = true := by decide  -- V-SY-06
theorem test_stop_skips_its_byte :
    let t := cpu (withCode [0x10, 0xFF] base); t.power = .stopped ∧ t.pc = 0xC002 := by decide  -- R189
theorem test_ei : let t := cpu (withCode [0xFB] base); t.ime = false ∧ t.eiDelay = 1 := by decide  -- R191
theorem test_ei_next_instruction :
    let t := cpu (withCode [0xFB] { base with eiDelay := 1 }); t.ime = true ∧ t.eiDelay = 0 := by decide  -- V-SY-09
theorem test_di_cancels_ei :
    let t := cpu (withCode [0xF3] { base with eiDelay := 1 }); t.ime = false ∧ t.eiDelay = 0 := by decide  -- V-SY-08
theorem test_illegal :
    let t := cpu (withCode [0xD3] base);
    t.faultRec = some { kind := .unknownOpcode, opcode := 0xD3, pc := 0xC000 } ∧ t.pc = 0xC000 := by decide  -- V-SY-12
theorem test_illegal_ppu_not_stepped :
    let t := sys (withCode [0xED] { base with counter := 10 }); t.counter = 10 ∧ t.faultRec.isSome = true := by decide  -- V-SY-13
theorem test_dispatch_priority :
    let t := cpu { base with ime := true, ie := 0x1E, ifReg := 0x1F, sp := 0xD000 };
    t.pc = 0x0048 ∧ t.ifReg = 0x1D ∧ t.ime = false ∧ t.busRead 0xCFFF = 0xC0 ∧ t.cycles = 20 := by decide  -- V-IN-02
theorem test_dispatch_push_writes_ie :
    let t := cpu { base with ime := true, ie := 0x01, sp := 0x0001 };
    t.pc = 0x0040 ∧ t.ie = 0x00 ∧ t.ifReg = 0x00 ∧ t.events = [.ignoredWrite 0x0000 0xC0] := by decide  -- V-IN-10
theorem test_no_dispatch_from_high_bits :
    (cpu { base with ime := true, ie := 0xE0, ifReg := 0x1F }).pc = 0xC001 := by decide  -- V-IN-04
theorem test_input_wakes_and_dispatches :
    let s := { base with ime := true, ie := 0x08, ifReg := 0, sp := 0xD000 };
    let t := sys { s with inputs := [{ irq := 0x08, stopWake := false }] };
    t.pc = 0x0058 ∧ t.ifReg = 0 ∧ t.counter = 20 ∧ t.inputs = [] := by decide  -- V-IN-06
theorem test_nop_moves_ppu :
    let t := sys { base with counter := 76 }; t.mode = .xfer ∧ t.counter = 0 ∧ t.pc = 0xC001 := by decide  -- R203, R213
theorem test_fault_is_sticky :
    (match cpuStep false { base with faultRec := some { kind := .unknownOpcode, opcode := 0xDD, pc := 0x0109 } } with
      | .fault (.faulted r) => r.opcode == 0xDD && r.pc == 0x0109
      | _ => false) = true := by decide  -- P5
theorem test_fault_still_latches :
    let r := { kind := .unknownOpcode, opcode := 0xDD, pc := 0x0109 };
    let t := sys { base with faultRec := some r, ifReg := 0x01, inputs := [{ irq := 0x1F, stopWake := false }] };
    t.ifReg = 0x1D ∧ t.result = .fault r ∧ t.observe = none ∧ t.counter = 0 ∧ t.pc = 0xC000 := by decide  -- R203
theorem test_observed_opcode_bytes :
    (sys (withCode [0x3E, 0x7E] base)).opcode = [0x3E] ∧ (sys (withCode [0x10, 0xFF] base)).opcode = [0x10] ∧
    (sys (withCode [0xCB, 0x37] base)).opcode = [0xCB, 0x37] ∧ (sys { base with power := .halted }).opcode = [] := by decide  -- R208
theorem test_cycle_table_is_an_argument :
    let cfg : CycleConfig :=
      { CycleConfig.default with secondary := .replicate 16 (.replicate 16 ⟨12, 0⟩), intDispatch := 24, haltIdle := 8 };
    let s := { State.resetWith cfg with pc := 0xC000 };
    (sys (withCode [0xCB, 0x46] s)).counter = 12 ∧ (sys (withCode [0x00] s)).counter = 4 ∧
    (sys { s with power := .halted }).counter = 8 ∧ (sys { s with ime := true, ie := 0x01 }).counter = 24 := by decide  -- R8

/-! ## The PPU, the bus and the loader -/

theorem test_ppu_enters_vblank :
    let t := State.ppuStep 4 { base with mode := .hblank, line := 143, counter := 200, ifReg := 0 };
    t.mode = .vblank ∧ t.line = 144 ∧ t.counter = 0 ∧ t.ifReg = 0x01 := by decide  -- V-PP-08
theorem test_ppu_wraps :
    let t := State.ppuStep 4 { base with mode := .vblank, line := 153, counter := 452 };
    t.mode = .oam ∧ t.line = 0 ∧ t.counter = 0 := by decide  -- V-PP-10
theorem test_render_pixels :
    let s := ((base.setMem 0xFF47 0xE4).setMem 0x8000 0xF0).setMem 0x8001 0xCC;
    (List.range 8).map (s.pixel 0) = [3, 3, 1, 1, 2, 2, 0, 0] := by decide  -- V-RL-01
theorem test_render_scroll_x :
    let s := (((base.setMem 0xFF47 0xE4).setMem 0x8000 0xF0).setMem 0x8001 0xCC).setMem 0xFF43 0x03;
    (List.range 8).map (s.pixel 0) = [1, 2, 2, 0, 0, 3, 3, 1] := by decide  -- V-RL-04
theorem test_render_signed_tiles :
    let s := (((base.setMem 0xFF40 0x81).setMem 0xFF47 0xE4).setMem 0x9800 0x80).setMem 0x8800 0xFF;
    (List.range 9).map (s.pixel 0) = [1, 1, 1, 1, 1, 1, 1, 1, 0] := by decide  -- V-RL-07
theorem test_bus_if_top_bits :
    (base.memWrite 0xFF0F 0x00).busRead 0xFF0F = 0xE0 ∧ (base.memWrite 0xFF0F 0xFF).busRead 0xFF0F = 0xFF := by decide  -- V-MB-02
theorem test_bus_ly_read_only : (base.memWrite 0xFF44 0x07).busRead 0xFF44 = 0x00 := by decide  -- V-MB-05
theorem test_bus_prohibited :
    (base.memWrite 0xFEA0 0x05).busRead 0xFEA0 = 0x00 ∧ (base.memWrite 0xFE9F 0x05).busRead 0xFE9F = 0x05 := by decide  -- V-MB-08
theorem test_load_too_large : (base.load 0xFFFF [0x22, 0x22]).isNone = true := by decide  -- V-MB-11
theorem test_load_bypasses_handlers :
    (match base.load 0xFF0F [0x1F] with
      | some t => t.busRead 0xFF0F == 0xE1 && t.mem.get 0xFF0F == 0x1F
      | none => false) = true := by decide  -- V-MB-12
theorem test_pair_aliasing :
    (after (.ldCD8 0xFF) (base.setPair .bc 0x1234)).bc = 0x12FF ∧ (base.setStkPair .af 0x12FF).af = 0x12F0 := by decide  -- R14, R15
theorem test_word_placed_and_run : (sys (State.reset.withFetchWord 16 0x7E3E)).a = 0x7E := by decide  -- log entry 8

/-! ## Witnesses: for each statement with hypotheses, a state and operands that meet them

The statements not named here have no hypothesis on their state or operands; their clauses over the registers left
unchanged are met by `witness_other_register`, `witness_other_pair` and `witness_other_stack_pair`. -/

theorem witness_other_register : R8.b ≠ R8.a ∧ R8.b ≠ R8.h ∧ R8.b ≠ R8.l := by decide
theorem witness_other_pair : R16.bc ≠ R16.sp := by decide
theorem witness_other_stack_pair : R16Stk.bc ≠ R16Stk.af := by decide

/-- A state the next step fetches from, with NOP at PC. -/
def running : State := { base with mem := [(0xC123, 0x5A)] }

theorem running_inv : running.Inv where
  mem_wf := by decide
  f_low := by decide
  stat_low := by decide
  line_le := by decide
  vblank_iff := by decide
  counter_lt := by decide
  fault_unknown := fun _ h => by cases h

theorem running_steps : ∃ t, step running = .next t := ⟨_, rfl⟩

theorem witness_ResetGivesSpecifiedState :
    (0xFEFF : Word).toNat < 0xFF00 ∧ 0xFF80 ≤ (0xFF80 : Word).toNat ∧ (0xFFFE : Word).toNat ≤ 0xFFFE ∧
    busTarget 0xFF00 = .periph ∧ busTarget 0xFF07 = .periph := by decide

theorem witness_StepKeepsInvariant : ∃ t, running.Inv ∧ step running = .next t :=
  ⟨_, running_inv, running_steps.choose_spec⟩

theorem witness_StepRunsDecodedInstruction :
    running.latchInput.fetches ∧
    decode [running.latchInput.fetchByte 0, running.latchInput.fetchByte 1, running.latchInput.fetchByte 2] =
      .ok (.nop, [0, 0]) := ⟨⟨rfl, rfl, rfl⟩, rfl⟩

theorem witness_DecodeOfEncodeIsInstruction : (Instr.ldHlD16 0xC000).wellFormed = true := by decide

/-- Both directions of the equivalence have an instance. -/
theorem witness_IllegalSlotsAreEleven :
    decodeBytes 0xFD 0 0 = .illegal .fd ∧
    (0xFD : Byte) ∈ ([0xD3, 0xDB, 0xDD, 0xE3, 0xE4, 0xEB, 0xEC, 0xED, 0xF4, 0xFC, 0xFD] : List Byte) :=
  ⟨rfl, by decide⟩

/-- The last line of each statement's table is a line of it. -/
theorem witness_LoadAFromAddress (n : Byte) (a : Word) (s : State) :
    (.ldAAtC, [0b11110010], 8, BitVec.ofNat 16 (0xFF00 + s.c.toNat)) ∈
      ([(.ldAAtBc, [0b00001010], 8, s.bc), (.ldAAtDe, [0b00011010], 8, s.de),
        (.ldAAtA16 a, [0b11111010, loByte a, hiByte a], 16, a),
        (.ldhAAtA8 n, [0b11110000, n], 12, BitVec.ofNat 16 (0xFF00 + n.toNat)),
        (.ldAAtC, [0b11110010], 8, BitVec.ofNat 16 (0xFF00 + s.c.toNat))] :
        List (Instr × List Byte × Nat × Word)) := by simp

theorem witness_StoreAToAddress (n : Byte) (a : Word) (s : State) :
    (.ldAtCA, [0b11100010], 8, BitVec.ofNat 16 (0xFF00 + s.c.toNat)) ∈
      ([(.ldAtBcA, [0b00000010], 8, s.bc), (.ldAtDeA, [0b00010010], 8, s.de),
        (.ldAtA16A a, [0b11101010, loByte a, hiByte a], 16, a),
        (.ldhAtA8A n, [0b11100000, n], 12, BitVec.ofNat 16 (0xFF00 + n.toNat)),
        (.ldAtCA, [0b11100010], 8, BitVec.ofNat 16 (0xFF00 + s.c.toNat))] :
        List (Instr × List Byte × Nat × Word)) := by simp

theorem witness_LogicOperations :
    (.or, fun x y => x || y, false) ∈
      ([(.and, fun x y => x && y, true), (.xor, fun x y => x != y, false), (.or, fun x y => x || y, false)] :
        List (AluOp × (Bool → Bool → Bool) × Bool)) := by simp

theorem witness_AccumulatorRotates :
    (.rra, [0b00011111], .rr) ∈
      ([(.rlca, [0b00000111], .rlc), (.rrca, [0b00001111], .rrc), (.rla, [0b00010111], .rl),
        (.rra, [0b00011111], .rr)] : List (Instr × List Byte × RotOp)) := by simp

theorem witness_PopLoadsPair : (R16Stk.bc ≠ .af) ∧ (R16Stk.af = .af) := by decide

theorem witness_CbRotates : RotOp.rr ∈ [RotOp.rlc, .rrc, .rl, .rr] := by decide
theorem witness_CbShifts : RotOp.srl ∈ [RotOp.sla, .sra, .swap, .srl] := by decide

/-- The highest bit index of the clauses over the bits of a byte. -/
theorem witness_bits_of_a_byte : (7 : Nat) < 8 ∧ (0 : Nat) < 8 := by decide

/-- Each condition holds in one state and fails in another: both branches of `ConditionalJumps`, `ConditionalCalls` and
`ConditionalReturns`. -/
theorem witness_conditions : ∀ cc ∈ [Cond.nz, .z, .nc, .c],
    condHolds cc { base with f := if cc = .z then 0x80 else if cc = .c then 0x10 else 0x00 } = true ∧
    condHolds cc { base with f := if cc = .nz then 0x80 else if cc = .nc then 0x10 else 0x00 } = false := by decide

theorem witness_NopHaltStopAndWake_halted :
    let s := { base with power := .halted }
    s.faultRec = none ∧ s.power = .halted ∧ s.ie.setWidth 5 &&& s.ifReg = 0 := by decide
theorem witness_NopHaltStopAndWake_stopped :
    let s := { base with power := .stopped }
    s.faultRec = none ∧ s.power = .stopped ∧ s.ie.setWidth 5 &&& s.ifReg = 0 := by decide
theorem witness_NopHaltStopAndWake_dispatches :
    let s := { base with power := .halted, ime := true, ie := 0x01 }
    s.faultRec = none ∧ s.ime = true ∧ s.ie.setWidth 5 &&& s.ifReg ≠ 0 := by decide
theorem witness_NopHaltStopAndWake_fetches :
    let s := { base with power := .halted, ime := false, ie := 0x01 }
    s.faultRec = none ∧ s.ime = false ∧ ¬ (s.ie.setWidth 5 &&& s.ifReg = 0) := by decide

theorem witness_NopHaltStopAndWake_idle_step :
    let s := { base with power := .halted }
    s.faultRec = none ∧ s.latchInput.staysIdle s.nextInput.stopWake = true := by decide

/-- An idle step, a dispatch step, an instruction. -/
theorem witness_DisableEnableInterrupts_steps :
    { base with power := .halted }.staysIdle false = true ∧
    (let s := { base with ime := true, ie := 0x01 }
     s.staysIdle false = false ∧ s.interruptTaken = some .vblank) ∧
    base.staysIdle false = false ∧ base.interruptTaken = none := by decide

theorem witness_DisableEnableInterrupts :
    (base.faultRec = none ∧ base.eiDelay = 0) ∧
    { base with eiDelay := 1 }.eiDelay = 1 ∧ { base with eiDelay := 2 }.eiDelay = 2 ∧
    { base with faultRec := some { kind := .unknownOpcode, opcode := 0xD3, pc := 0 } }.faultRec ≠ none := by decide

theorem witness_IllegalOpcodeRaisesFault :
    let s := base.setMem 0xC000 0xD3
    s.latchInput.fetches ∧ s.latchInput.busRead s.pc = IllegalSlot.d3.opcode := ⟨⟨rfl, rfl, rfl⟩, rfl⟩
theorem witness_IllegalOpcodeRaisesFault_sticky :
    ∃ r, { base with faultRec := some { kind := .unknownOpcode, opcode := 0xD3, pc := 0 } }.faultRec = some r :=
  ⟨_, rfl⟩

theorem witness_DispatchPriority :
    { base with ime := true, ie := 0x11, ifReg := 0x10 }.interruptTaken = some .joypad ∧
    { base with ime := true, ie := 0x11, ifReg := 0x11 }.interruptTaken = some .vblank := by decide

theorem witness_DispatchTakesInterrupt :
    let s := { base with ime := true, ie := 0x10, ifReg := 0x10 }
    s.faultRec = none ∧ s.interruptTaken = some .joypad ∧ (4 : Nat) < 5 := by decide

/-- The bounds of the regions, and what a read there gives: the first and last address of each clause. -/
theorem witness_BusFollowsMap_regions :
    ([0x0000, 0x7FFF].map busTarget = [.rom, .rom]) ∧
    ([0x8000, 0xDFFF].map busTarget = [.plain, .plain]) ∧
    ([0xE000, 0xFDFF].map busTarget = [.unmapped, .unmapped]) ∧
    ([0xFE00, 0xFE9F].map busTarget = [.plain, .plain]) ∧
    ([0xFEA0, 0xFEFF].map busTarget = [.prohibited, .prohibited]) ∧
    ([0xFF01, 0xFF7F, 0xFF80, 0xFFFE].map busTarget = [.plain, .plain, .plain, .plain]) := by decide
theorem witness_BusFollowsMap_handlers :
    ([0xFF00, 0xFF04, 0xFF05, 0xFF06, 0xFF07].map busTarget = [.periph, .periph, .periph, .periph, .periph]) ∧
    busTarget 0xFF0F = .ifReg ∧ busTarget 0xFF41 = .stat ∧ busTarget 0xFF44 = .ly ∧ busTarget 0xFFFF = .ie := by decide
/-- The clauses' own bounds at those addresses. -/
theorem witness_BusFollowsMap_bounds :
    (0x7FFF : Word).toNat ≤ 0x7FFF ∧ 0x8000 ≤ (0x8000 : Word).toNat ∧ (0xDFFF : Word).toNat ≤ 0xDFFF ∧
    0xE000 ≤ (0xE000 : Word).toNat ∧ (0xFDFF : Word).toNat ≤ 0xFDFF ∧ 0xFE00 ≤ (0xFE00 : Word).toNat ∧
    (0xFE9F : Word).toNat ≤ 0xFE9F ∧ 0xFEA0 ≤ (0xFEA0 : Word).toNat ∧ (0xFEFF : Word).toNat ≤ 0xFEFF ∧
    (0xFF07 : Word).toNat ∈ [0xFF00, 0xFF04, 0xFF05, 0xFF06, 0xFF07] ∧ (0xFF0F : Word).toNat = 0xFF0F ∧
    (0xFF41 : Word).toNat = 0xFF41 ∧ (0xFF44 : Word).toNat = 0xFF44 ∧ (0xFFFE : Word).toNat ≤ 0xFFFE ∧
    (0xFFFE : Word).toNat ∉ [0xFF00, 0xFF04, 0xFF05, 0xFF06, 0xFF07, 0xFF0F, 0xFF41, 0xFF44] ∧
    (0xFFFF : Word).toNat = 0xFFFF := by decide

theorem witness_LoadInstallsImage :
    (0xFFFF : Word).toNat + [(0x22 : Byte), 0x22].length > 0x10000 ∧
    (0xFFFF : Word).toNat + [(0x22 : Byte)].length ≤ 0x10000 := by decide

/-- Each mode, its budget not used up and used up. -/
theorem witness_PpuStepIsTheLoop :
    (base.mode = .oam ∧ base.counter + 79 < 80 ∧ ¬ base.counter + 80 < 80) ∧
    { base with mode := .xfer }.mode = .xfer ∧ { base with mode := .hblank, line := 143 }.line + 1 = 144 ∧
    { base with mode := .vblank, line := 153 }.line + 1 = 154 := by decide

theorem witness_FrameReturnsToStart :
    base.mode = .oam ∧ base.line = 0 ∧ base.counter = 0 ∧ [65664, 4560].sum = 70224 ∧ [65663].sum ≤ 70224 := by decide

theorem witness_RenderLineWritesRow :
    (0 : Fin 144) ≠ 143 ∧
    (let s := { base with mode := .xfer, counter := 171 }
     s.mode = .xfer ∧ 172 ≤ s.counter + 1 ∧ s.counter + 204 < 172 + 204) := by decide

theorem witness_RomNeverChanges : ∃ t, step running = .next t ∧ 0x7FFF < 0x8000 :=
  ⟨_, running_steps.choose_spec, by decide⟩

theorem witness_CpuStepLeavesPpu : ∃ t, cpuStep false running = .next t := ⟨_, rfl⟩

theorem witness_ImeRisesOnlyByEiOrReti_delay :
    ∃ t, step { base with eiDelay := 1 } = .next t ∧ { base with eiDelay := 1 }.ime = false ∧ t.ime = true :=
  ⟨_, rfl, rfl, rfl⟩
theorem witness_ImeRisesOnlyByEiOrReti_reti :
    ∃ t, step (base.setMem 0xC000 0xD9) = .next t ∧ (base.setMem 0xC000 0xD9).ime = false ∧ t.ime = true :=
  ⟨_, rfl, rfl, rfl⟩

theorem witness_SystemStepCouplesCpuAndPpu :
    { base with inputs := [{ irq := 0x1F, stopWake := true }] }.inputs = { irq := 0x1F, stopWake := true } :: [] ∧
    base.inputs = [] := by decide
/-- Its three cases: a completed step, a step that raises the fault, a step of a faulted core. -/
theorem witness_SystemStepCouplesCpuAndPpu_outcomes :
    (∃ c, cpuStep false running = .next c ∧ c.faultRec = none) ∧
    (∃ c r, cpuStep false (base.setMem 0xC000 0xD3) = .next c ∧ c.faultRec = some r) ∧
    (∃ r, cpuStep false { base with faultRec := some { kind := .unknownOpcode, opcode := 0xD3, pc := 0 } } =
      .fault (.faulted r)) :=
  ⟨⟨_, rfl, rfl⟩, ⟨_, _, rfl, rfl⟩, ⟨_, rfl⟩⟩

end Sys2Proof.Tests
end

section
/-! Encoding a decoded instruction gives back the bytes its first byte claims
(spec/30_encoding.md R54, R59), so its length and its opcode slot are those of the bytes. -/

namespace Sys2Proof

/-- The instruction of a slot for given operands: `n` the immediate byte or secondary opcode, `w` the 16-bit immediate.
The escape gives its own row, whose bytes are those of the secondary row (R193). -/
def Slot.instrWith (n : Byte) (w : Word) : Slot → Instr
  | .op i => i
  | .n8 f => f n
  | .n16 f => f w
  | .escape => .prefixCb n

/-- The bytes after the first one, for the same operands (R54, R59). -/
def Slot.operandBytes (n : Byte) (w : Word) : Slot → List Byte
  | .op _ => []
  | .n8 _ => [n]
  | .n16 _ => [loByte w, hiByte w]
  | .escape => [n]

/-- The encoder agrees with the primary map (R60): an entry's bytes begin with its place in the map. Both are tables of
256 entries, compared entry by entry for all operands. -/
theorem encode_primarySlot_instrWith (b n : Byte) (w : Word) :
    encode ((primarySlot b).instrWith n w) = b :: (primarySlot b).operandBytes n w := by
  obtain ⟨v, hv, rfl⟩ : ∃ v < 256, b = BitVec.ofNat 8 v := ⟨b.toNat, b.isLt, by simp⟩
  interval_cases v <;> rfl

/-- The encoder agrees with the secondary map (R61). -/
theorem encode_secondaryInstr (op2 : Byte) : encode (secondaryInstr op2) = [0xCB, op2] := by
  revert op2
  decide

/-- Only 0xCB escapes to the secondary map (R54). -/
theorem eq_of_primarySlot_escape {b : Byte} (h : primarySlot b = .escape) : b = 0xCB := by
  have hbytes := encode_primarySlot_instrWith b 0 0
  rw [h] at hbytes
  exact (List.cons.inj hbytes).1.symm

/-- Encoding what three bytes decode to gives back the bytes of the instruction (R54, R59). -/
theorem encode_decodeBytes (b0 b1 b2 : Byte) :
    encode (decodeBytes b0 b1 b2) = [b0, b1, b2].take (instrLength b0) := by
  have hbytes := encode_primarySlot_instrWith b0 b1 (wordOf b1 b2)
  unfold decodeBytes instrLength
  cases h : primarySlot b0 with
  | op i => simpa [h, Slot.instrWith, Slot.operandBytes, Slot.length] using hbytes
  | n8 f => simpa [h, Slot.instrWith, Slot.operandBytes, Slot.length] using hbytes
  | n16 f => simpa [h, Slot.instrWith, Slot.operandBytes, Slot.length] using hbytes
  | escape => simp [encode_secondaryInstr, eq_of_primarySlot_escape h, Slot.length]

/-- An instruction has one to three bytes (R54). -/
theorem instrLength_bounds (b : Byte) : 1 ≤ instrLength b ∧ instrLength b ≤ 3 := by
  unfold instrLength
  cases primarySlot b <;> simp [Slot.length]

/-- The length of a decoded instruction is the one its first byte fixes (R54). -/
theorem length_encode_decodeBytes (b0 b1 b2 : Byte) :
    (encode (decodeBytes b0 b1 b2)).length = instrLength b0 := by
  rw [encode_decodeBytes, List.length_take]
  exact min_eq_left (instrLength_bounds b0).2

/-- Off the escape the first byte alone gives the slot (R54). -/
theorem opSlot_of_ne_escape {b0 : Byte} (h : b0 ≠ 0xCB) (b1 : Byte) : opSlot b0 b1 = .primary b0 := if_neg h

/-- The opcode slot of a decoded instruction is that of the bytes (R54): the escape's second byte is one of the
instruction's own, and off the escape the second byte does not count. -/
theorem slot_decodeBytes (b0 b1 b2 : Byte) : (decodeBytes b0 b1 b2).slot = opSlot b0 b1 := by
  unfold Instr.slot
  rw [encode_decodeBytes]
  by_cases h : b0 = 0xCB
  · subst h; rfl
  · obtain ⟨k, hk⟩ := Nat.exists_eq_add_of_le' (instrLength_bounds b0).1
    rw [hk]
    exact (opSlot_of_ne_escape h _).trans (opSlot_of_ne_escape h _).symm

end Sys2Proof
end

section
/-! The statements of spec/00_scope.md: only an illegal slot faults (R11, R197), and a step
runs the instruction decoded at PC (R10, R19, R196, R203). -/

namespace Sys2Proof.Machine

/-- The control effects leave the recorded fault, all but that of an illegal slot (R194, R197). -/
theorem ControlEffect.faultRec {i : Instr} {s t : State} (h : ControlEffect i s t) :
    t.faultRec = s.faultRec ∨
      ∃ k : IllegalSlot, i = .illegal k ∧
        t.faultRec = some { kind := .unknownOpcode, opcode := k.opcode, pc := s.pc - 1 } := by
  rcases h with quiet | ⟨-, reti, -⟩ | ⟨-, di, -⟩ | ⟨-, ei, -⟩ | ⟨-, sleep, -⟩ | ⟨k, hk, -, -, hfault⟩
  · exact .inl quiet.faultRec
  · exact .inl reti.faultRec
  · exact .inl di.faultRec
  · exact .inl ei.faultRec
  · exact .inl sleep.faultRec
  · exact .inr ⟨k, hk, hfault⟩

/-- Settles O59: the frame of every instruction, with the recorded fault read off its control effect. -/
theorem onlyIllegalSlotsFault : Obligations.OnlyIllegalSlotsFault := by
  intro i s
  obtain ⟨t, ht, -, heffect⟩ := exec_frame i s
  exact ⟨t, ht, heffect.faultRec⟩

/-- The fetch takes the instruction's encoding, and shows its opcode slot (R19, R54, R208). -/
theorem State.afterFetch_eq (s : State) :
    s.afterFetch =
      { s with
        pc := s.pc + BitVec.ofNat 16 (encode s.instrAt).length
        reads := s.reads + (encode s.instrAt).length
        opcode := s.instrAt.slot.bytes } := by
  have hlength : (encode s.instrAt).length = s.fetchLength := length_encode_decodeBytes _ _ _
  have hslot : s.instrAt.slot.bytes = s.fetchOpcode := congrArg OpSlot.bytes (slot_decodeBytes _ _ _)
  rw [hlength, hslot, State.afterFetch]

/-- The instruction at PC is what the three bytes from PC on decode to (R54). -/
theorem State.instrAt_of_decode {s : State} {i : Instr} {rest : List Byte}
    (h : decode [s.fetchByte 0, s.fetchByte 1, s.fetchByte 2] = .ok (i, rest)) : s.instrAt = i := by
  rw [decode_three] at h
  exact congrArg Prod.fst (Except.ok.inj h)

/-- A CPU step of a core that fetches runs one instruction (R196). -/
theorem cpuStep_of_fetches {s : State} (wake : Bool) (h : s.fetches) : cpuStep wake s = runInstruction s := by
  obtain ⟨hfault, hpower, hint⟩ := h
  have hwake : s.wake = s := by simp [State.wake, ← hpower]
  have hawake : s.staysIdle wake = false := by simp [State.staysIdle, hpower]
  rw [cpuStep_run hfault hawake hint, hwake]

/-- A system step of a core that fetches runs one instruction and then the PPU's part (R203). -/
theorem step_of_fetches {s : State} (h : s.latchInput.fetches) :
    step s = mapNext State.ppuPart (runInstruction s.latchInput) := by
  obtain ⟨u, hu, -⟩ := exec_frame s.latchInput.instrAt s.latchInput.afterFetch
  have hrun : runInstruction s.latchInput = .next u.endInstruction := by rw [runInstruction, hu]; rfl
  rw [step_of_cpuStep ((cpuStep_of_fetches _ h).trans hrun), hrun]
  rfl

/-- Settles O4: the step runs the instruction at PC after its fetch, which takes exactly the decoded encoding. -/
theorem stepRunsDecodedInstruction : Obligations.StepRunsDecodedInstruction := by
  intro s i rest hfetch hdecode
  rw [step_of_fetches hfetch, runInstruction, State.afterFetch_eq, State.instrAt_of_decode hdecode]
  rfl

end Sys2Proof.Machine
end

section
/-! The invariant at reset and across a step (R15, R24, R25, R29, R33, R213), what a CPU step leaves of the PPU (R33,
R48), and when IME rises (R21, R192, R224). -/

namespace Sys2Proof.Machine

/-! ## What a CPU step leaves -/

/-- `cpuStep_cases` with the instruction's frame and control effect in place of its `exec` (R196). -/
theorem cpuStep_effect {wake : Bool} {s t : State} (h : cpuStep wake s = .next t) :
    s.faultRec = none ∧
    (t = s.idle ∨ (∃ i, t = s.wake.dispatchStep i) ∨
      ∃ u, ExecFrame s.wake.afterFetch u ∧ ControlEffect s.instrAt s.wake.afterFetch u ∧ t = u.endInstruction) := by
  obtain ⟨hfault, ⟨-, hidle⟩ | ⟨-, i, -, hdispatch⟩ | ⟨-, -, u, hu, hrun⟩⟩ := cpuStep_cases h
  · exact ⟨hfault, .inl hidle⟩
  · exact ⟨hfault, .inr (.inl ⟨i, hdispatch⟩)⟩
  · obtain ⟨v, hv, hframe, heffect⟩ := exec_frame s.wake.instrAt s.wake.afterFetch
    obtain rfl : u = v := by simpa [hu] using hv
    exact ⟨hfault, .inr (.inr ⟨u, hframe, heffect, hrun⟩)⟩

/-- Only the PPU writes its state (R33, R48). -/
theorem cpuStep_samePpu {wake : Bool} {s t : State} (h : cpuStep wake s = .next t) : SamePpu s t := by
  obtain ⟨-, rfl | ⟨i, rfl⟩ | ⟨u, hframe, -, rfl⟩⟩ := cpuStep_effect h
  · exact ⟨rfl, rfl, rfl, rfl⟩
  · constructor <;> simp
  · obtain ⟨hmode, hline, hcounter, hfb⟩ := hframe.ppu
    exact ⟨by simpa using hmode, by simpa using hline, by simpa using hcounter, by simpa using hfb⟩

theorem cpuStep_inputs {wake : Bool} {s t : State} (h : cpuStep wake s = .next t) : t.inputs = s.inputs := by
  obtain ⟨-, rfl | ⟨i, rfl⟩ | ⟨u, hframe, -, rfl⟩⟩ := cpuStep_effect h
  · rfl
  · simp
  · simpa using hframe.inputs

/-- A CPU step keeps F's low nibble 0 (R15). -/
theorem cpuStep_fLow {wake : Bool} {s t : State} (h : cpuStep wake s = .next t) (hs : s.f &&& 0x0F = 0) :
    t.f &&& 0x0F = 0 := by
  obtain ⟨-, rfl | ⟨i, rfl⟩ | ⟨u, hframe, -, rfl⟩⟩ := cpuStep_effect h
  · exact hs
  · simpa using hs
  · simpa using hframe.fLow hs

/-- Settles O57: the frame of the CPU step. -/
theorem cpuStepLeavesPpu : Obligations.CpuStepLeavesPpu :=
  fun _ _ _ h => ⟨cpuStep_samePpu h, cpuStep_inputs h, cpuStep_timing h⟩

/-! ## When IME rises -/

/-- Of the instructions only RETI sets IME at once (R185). -/
theorem ControlEffect.ime_rises {i : Instr} {s t : State} (h : ControlEffect i s t) (ht : t.ime = true) :
    s.ime = true ∨ i = .reti := by
  rcases h with quiet | ⟨hi, -⟩ | ⟨-, -, di, -⟩ | ⟨-, ei, -⟩ | ⟨-, sleep, -⟩ | ⟨k, -, illegal, -⟩
  · exact .inl (quiet.ime.symm.trans ht)
  · exact .inr hi
  · exact absurd ht (by simp [di])
  · exact .inl (ei.ime.symm.trans ht)
  · exact .inl (sleep.ime.symm.trans ht)
  · exact .inl (illegal.ime.symm.trans ht)

/-- No instruction brings EiDelay to 1: EI sets it to 2 or leaves it, and DI clears it (R190, R191). -/
theorem ControlEffect.eiDelay_one {i : Instr} {s t : State} (h : ControlEffect i s t) (ht : t.eiDelay = 1) :
    s.eiDelay = 1 := by
  rcases h with quiet | ⟨-, reti, -⟩ | ⟨-, -, -, di⟩ | ⟨-, -, ei⟩ | ⟨-, sleep, -⟩ | ⟨k, -, illegal, -⟩
  · exact quiet.eiDelay.symm.trans ht
  · exact reti.eiDelay.symm.trans ht
  · rw [di] at ht; contradiction
  · rw [ei] at ht
    split at ht
    · contradiction
    · exact ht
  · exact sleep.eiDelay.symm.trans ht
  · exact illegal.eiDelay.symm.trans ht

/-- A CPU step ends with IME set if it was set, if `EiTick()` found EiDelay at 1, or if RETI ran (R192, R224). -/
theorem cpuStep_ime {wake : Bool} {s t : State} (h : cpuStep wake s = .next t) (ht : t.ime = true) :
    s.ime = true ∨ s.eiDelay = 1 ∨ s.instrAt = .reti := by
  obtain ⟨-, rfl | ⟨i, rfl⟩ | ⟨u, -, heffect, rfl⟩⟩ := cpuStep_effect h
  · exact .inl ht
  · simp at ht
  · rcases State.endInstruction_ime ht with hime | hdelay
    · exact (heffect.ime_rises hime).imp_right .inr
    · exact .inr (.inl (heffect.eiDelay_one hdelay))

/-- Settles O58: the CPU step's rule for IME, which neither the latch nor the PPU's part touches. -/
theorem imeRisesOnlyByEiOrReti : Obligations.ImeRisesOnlyByEiOrReti := by
  intro s t h hs ht
  rcases step_cases h with ⟨-, u, hu, rfl⟩ | ⟨-, rfl⟩
  · have hrises := cpuStep_ime hu (by simpa using ht)
    simpa [hs] using hrises
  · simp [hs] at ht

/-! ## The invariant -/

/-- A fault that an instruction records in a running core is as the invariant says (R194, R197). -/
theorem ControlEffect.fault_unknown {i : Instr} {s t : State} {r : FaultRec} (h : ControlEffect i s t)
    (hs : s.faultRec = none) (hrun : s.power = .run) (ht : t.faultRec = some r) :
    r.kind = .unknownOpcode ∧ r.pc = t.pc ∧ (∃ k : IllegalSlot, r.opcode = k.opcode) ∧ t.power = .run := by
  have kept (e : t.faultRec = s.faultRec) : False := by simp [e, hs] at ht
  rcases h with quiet | ⟨-, reti, -⟩ | ⟨-, di, -⟩ | ⟨-, ei, -⟩ | ⟨-, sleep, -⟩ | ⟨k, -, illegal, hpc, hfault⟩
  · exact (kept quiet.faultRec).elim
  · exact (kept reti.faultRec).elim
  · exact (kept di.faultRec).elim
  · exact (kept ei.faultRec).elim
  · exact (kept sleep.faultRec).elim
  · obtain rfl := Option.some.inj (hfault.symm.trans ht)
    exact ⟨rfl, hpc.symm, ⟨k, rfl⟩, illegal.power.trans hrun⟩

/-- A fault recorded after a CPU step was raised in it, by an illegal slot, on the woken core (R194, R196). -/
theorem cpuStep_fault_unknown {wake : Bool} {s t : State} {r : FaultRec} (h : cpuStep wake s = .next t)
    (ht : t.faultRec = some r) :
    r.kind = .unknownOpcode ∧ r.pc = t.pc ∧ (∃ k : IllegalSlot, r.opcode = k.opcode) ∧ t.power = .run := by
  obtain ⟨hs, rfl | ⟨i, rfl⟩ | ⟨u, -, heffect, rfl⟩⟩ := cpuStep_effect h
  · simp [hs] at ht
  · simp [hs] at ht
  · simpa using heffect.fault_unknown hs rfl (by simpa using ht)

theorem cpuStep_inv {wake : Bool} {s t : State} (h : cpuStep wake s = .next t) (hs : s.Inv) : t.Inv := by
  obtain ⟨hmode, hline, hcounter, -⟩ := cpuStep_samePpu h
  exact
    { mem_wf := (cpuStep_memStep h).wf hs.mem_wf
      f_low := cpuStep_fLow h hs.f_low
      stat_low := (cpuStep_memStep h).stat hs.stat_low
      line_le := hline ▸ hs.line_le
      vblank_iff := by simpa [hmode, hline] using hs.vblank_iff
      counter_lt := by simpa [hmode, hcounter] using hs.counter_lt
      fault_unknown := fun _ => cpuStep_fault_unknown h }

/-- Line and Mode as R33 and R212 allow them: 154 lines, of which those from 144 on, and only those, are in VBLANK. -/
def State.LegalLine (s : State) : Prop := s.line ≤ 153 ∧ (s.mode = .vblank ↔ 144 ≤ s.line)

/-- Each transition leads from a legal line to a legal line: the line moves on at the end of HBLANK and of each line of
VBLANK only (R212, R213). -/
theorem State.LegalLine.ppuAdvance {s : State} (h : s.LegalLine) : s.ppuAdvance.LegalLine := by
  obtain ⟨hle, hiff⟩ := h
  rcases s.mode.cases with hmode | hmode | hmode | hmode <;> simp [hmode] at hiff
  · rw [State.ppuAdvance_oam hmode]
    exact ⟨hle, by simpa using hiff⟩
  · rw [State.ppuAdvance_xfer hmode]
    exact ⟨hle, by simpa using hiff⟩
  · rw [State.ppuAdvance_hblank hmode]
    split
    · simp [State.LegalLine]
    · simp [State.LegalLine]; omega
  · rw [State.ppuAdvance_vblank hmode]
    split
    · simp [State.LegalLine]
    · simp [State.LegalLine, hmode]; omega

/-- The PPU step keeps the line legal, and its loop ends below the budget of the mode (R213). -/
theorem State.ppuStep_inv {s : State} (hs : s.Inv) (n : Nat) : (s.ppuStep n).Inv := by
  have hline : (s.ppuStep n).LegalLine :=
    ppuRun_keeps (P := State.LegalLine) (fun _ h _ => h.ppuAdvance) _ ⟨hs.line_le, hs.vblank_iff⟩
  exact
    { mem_wf := by simpa using hs.mem_wf
      f_low := by simpa using hs.f_low
      stat_low := by simpa using hs.stat_low
      line_le := hline.1
      vblank_iff := hline.2
      counter_lt := ppuRun_counter_lt (Nat.le_refl _)
      fault_unknown := by simpa using hs.fault_unknown }

theorem State.ppuPart_inv {s : State} (hs : s.Inv) : s.ppuPart.Inv := by
  unfold State.ppuPart
  split
  · exact hs
  · exact State.ppuStep_inv hs _

/-- The latch writes IF and the list of inputs, of which the invariant does not speak (R203). -/
theorem State.latchInput_inv {s : State} (hs : s.Inv) : s.latchInput.Inv :=
  ⟨hs.mem_wf, hs.f_low, hs.stat_low, hs.line_le, hs.vblank_iff, hs.counter_lt, hs.fault_unknown⟩

/-- Settles O3: each of the latch, the CPU step and the PPU's part keeps the invariant. -/
theorem stepKeepsInvariant : Obligations.StepKeepsInvariant := by
  intro s t hs h
  rcases step_cases h with ⟨-, u, hu, rfl⟩ | ⟨-, rfl⟩
  · exact State.ppuPart_inv (cpuStep_inv hu (State.latchInput_inv hs))
  · exact State.latchInput_inv hs

/-- Settles O2: no byte is listed at reset, the PPU is at the start of line 0, and no fault is recorded. -/
theorem resetSatisfiesInvariant : Obligations.ResetSatisfiesInvariant where
  mem_wf := reset_mem_wf
  f_low := by decide
  stat_low := by decide
  line_le := by decide
  vblank_iff := by decide
  counter_lt := by decide
  fault_unknown := nofun

end Sys2Proof.Machine
end

section
/-! The statements of spec/20_memory.md: the ROM range never changes (R39, R225), the address map (R37 to R44), and
`load` (R53). -/

namespace Sys2Proof.Machine

/-! ## The ROM range -/

/-- Settles O56: the backing array changes by the CPU step's bus writes only, and these keep the ROM range. -/
theorem romNeverChanges : Obligations.RomNeverChanges := by
  intro s t h a ha
  rcases step_cases h with ⟨-, u, hu, rfl⟩ | ⟨-, rfl⟩
  · rw [State.ppuPart_mem]
    exact (cpuStep_memStep hu).rom a ha
  · rfl

/-! ## Which addresses each region holds -/

theorem isPeriphAddr_iff (a : Word) :
    isPeriphAddr a = true ↔ a.toNat ∈ [0xFF00, 0xFF04, 0xFF05, 0xFF06, 0xFF07] := by
  simp [isPeriphAddr, ← BitVec.toNat_inj, or_assoc]

/-- VRAM, external RAM and work RAM (R37). -/
theorem busTarget_of_ram {a : Word} (hlo : 0x8000 ≤ a.toNat) (hhi : a.toNat ≤ 0xDFFF) : busTarget a = .plain := by
  rw [busTarget, if_neg (by omega), if_pos (by omega)]

theorem busTarget_of_unmapped {a : Word} (hlo : 0xE000 ≤ a.toNat) (hhi : a.toNat ≤ 0xFDFF) :
    busTarget a = .unmapped := by
  rw [busTarget, if_neg (by omega), if_neg (by omega), if_pos (by omega)]

theorem busTarget_of_oam {a : Word} (hlo : 0xFE00 ≤ a.toNat) (hhi : a.toNat ≤ 0xFE9F) : busTarget a = .plain := by
  rw [busTarget, if_neg (by omega), if_neg (by omega), if_neg (by omega), if_pos (by omega)]

theorem busTarget_of_prohibited {a : Word} (hlo : 0xFEA0 ≤ a.toNat) (hhi : a.toNat ≤ 0xFEFF) :
    busTarget a = .prohibited := by
  rw [busTarget, if_neg (by omega), if_neg (by omega), if_neg (by omega), if_neg (by omega), if_pos (by omega)]

/-- From 0xFF00 on the map tells single addresses apart (R41). -/
theorem busTarget_of_high {a : Word} (hlo : 0xFF00 ≤ a.toNat) :
    busTarget a =
      if isPeriphAddr a then .periph
      else if a = 0xFF0F then .ifReg
      else if a = 0xFF41 then .stat
      else if a = 0xFF44 then .ly
      else if a = 0xFFFF then .ie
      else .plain := by
  rw [busTarget, if_neg (by omega), if_neg (by omega), if_neg (by omega), if_neg (by omega), if_neg (by omega)]

theorem busTarget_of_periph {a : Word} (h : a.toNat ∈ [0xFF00, 0xFF04, 0xFF05, 0xFF06, 0xFF07]) :
    busTarget a = .periph := by
  have hlo : 0xFF00 ≤ a.toNat := by simp at h; omega
  rw [busTarget_of_high hlo, if_pos ((isPeriphAddr_iff a).2 h)]

/-- The I/O registers that are not intercepted, and high RAM (R37, R42). -/
theorem busTarget_of_plainHigh {a : Word} (hlo : 0xFF00 ≤ a.toNat) (hhi : a.toNat ≤ 0xFFFE)
    (h : a.toNat ∉ [0xFF00, 0xFF04, 0xFF05, 0xFF06, 0xFF07, 0xFF0F, 0xFF41, 0xFF44]) : busTarget a = .plain := by
  have hperiph : ¬ isPeriphAddr a = true := by
    rw [isPeriphAddr_iff]
    simp at h ⊢
    omega
  have hne : ∀ b : Word, b.toNat ∈ [0xFF0F, 0xFF41, 0xFF44, 0xFFFF] → a ≠ b := by
    rintro b hb rfl
    simp at h hb
    omega
  rw [busTarget_of_high hlo, if_neg hperiph, if_neg (hne _ (by decide)), if_neg (hne _ (by decide)),
    if_neg (hne _ (by decide)), if_neg (hne _ (by decide))]

/-! ## What each region's handler does -/

/-- A store into the backing array, and nothing else (R38). -/
theorem State.setMem_stores (a : Word) (v : Byte) (s : State) :
    s.setMem a v = { s with mem := (s.setMem a v).mem } ∧
      ∀ k, (s.setMem a v).mem.get k = if k = a.toNat then v else s.mem.get k :=
  ⟨rfl, fun k => Memory.get_set s.mem a.toNat k v⟩

/-- ROM reads the backing array and ignores writes with a diagnostic (R39, R44). -/
theorem State.bus_rom {a : Word} (v : Byte) (s : State) (h : busTarget a = .rom) :
    s.busRead a = s.mem.get a.toNat ∧ s.memWrite a v = { s with events := .ignoredWrite a v :: s.events } := by
  simp [State.busRead, State.memWrite, State.emit, h]

/-- A plain byte reads and writes the backing array (R38). -/
theorem State.bus_plain {a : Word} (v : Byte) (s : State) (h : busTarget a = .plain) :
    s.busRead a = s.mem.get a.toNat ∧
      s.memWrite a v = { s with mem := (s.memWrite a v).mem } ∧
      ∀ k, (s.memWrite a v).mem.get k = if k = a.toNat then v else s.mem.get k := by
  have hwrite : s.memWrite a v = s.setMem a v := by simp [State.memWrite, h]
  rw [hwrite]
  exact ⟨by simp [State.busRead, h], State.setMem_stores a v s⟩

/-- An unmapped address reads 0x00 and drops writes (R40). -/
theorem State.bus_unmapped {a : Word} (v : Byte) (s : State) (h : busTarget a = .unmapped) :
    s.busRead a = 0x00 ∧ s.memWrite a v = s := by
  simp [State.busRead, State.memWrite, h]

/-- The prohibited range reads 0x00 and ignores writes with a diagnostic (R40, R44). -/
theorem State.bus_prohibited {a : Word} (v : Byte) (s : State) (h : busTarget a = .prohibited) :
    s.busRead a = 0x00 ∧ s.memWrite a v = { s with events := .ignoredWrite a v :: s.events } := by
  simp [State.busRead, State.memWrite, State.emit, h]

/-- A peripheral address draws its byte and hands writes out (R41, R204). -/
theorem State.bus_periph {a : Word} (v : Byte) (s : State) (h : busTarget a = .periph) :
    s.busRead a = Config.periphRead a s.reads ∧
      s.memWrite a v = { s with events := .periphWrite a v :: s.events } := by
  simp [State.busRead, State.memWrite, State.emit, h]

/-- IF holds five bits, and the three above them read 1 (R26, R41). -/
theorem State.bus_ifReg {a : Word} (v : Byte) (s : State) (h : busTarget a = .ifReg) :
    s.busRead a = 0b111#3 ++ s.ifReg ∧ s.memWrite a v = { s with ifReg := v.setWidth 5 } := by
  have hbits : ∀ r : BitVec 5, 0xE0 ||| r.setWidth 8 = 0b111#3 ++ r := by decide
  simpa [State.busRead, State.memWrite, h] using hbits s.ifReg

/-- The mode fills the two low bits that the mask clears (R41). -/
theorem and_or_mode_eq_append (b : Byte) (m : Mode) :
    (b &&& 0xFC) ||| m.number = b.extractLsb' 2 6 ++ m.number.setWidth 2 := by
  cases m <;> revert b <;> decide

/-- STAT reads the mode below six stored bits, and a write stores those six (R29, R41). -/
theorem State.bus_stat {a : Word} (v : Byte) (s : State) (h : busTarget a = .stat) :
    s.busRead a = (s.mem.get a.toNat).extractLsb' 2 6 ++ s.mode.number.setWidth 2 ∧
      s.memWrite a v = { s with mem := (s.memWrite a v).mem } ∧
      ∀ k, (s.memWrite a v).mem.get k = if k = a.toNat then v &&& 0xFC else s.mem.get k := by
  have hread : s.busRead a = (s.mem.get a.toNat &&& 0xFC) ||| s.mode.number := by simp [State.busRead, h]
  have hwrite : s.memWrite a v = s.setMem a (v &&& 0xFC) := by simp [State.memWrite, h]
  rw [hwrite, hread]
  exact ⟨and_or_mode_eq_append _ _, State.setMem_stores a (v &&& 0xFC) s⟩

/-- LY reads the line and drops writes (R41). -/
theorem State.bus_ly {a : Word} (v : Byte) (s : State) (h : busTarget a = .ly) :
    s.busRead a = BitVec.ofNat 8 s.line ∧ s.memWrite a v = s := by
  simp [State.busRead, State.memWrite, h]

/-- IE is all eight bits (R41). -/
theorem State.bus_ie {a : Word} (v : Byte) (s : State) (h : busTarget a = .ie) :
    s.busRead a = s.ie ∧ s.memWrite a v = { s with ie := v } := by
  simp [State.busRead, State.memWrite, h]

/-- Settles O50: each clause's addresses belong to one target of the map, whose handler does what the clause says. -/
theorem busFollowsMap : Obligations.BusFollowsMap := by
  intro a v s
  refine ⟨?rom, ?ram, ?unmapped, ?oam, ?prohibited, ?periph, ?ifReg, ?stat, ?ly, ?plainHigh, ?ie⟩
  case rom => exact fun h => s.bus_rom v ((busTarget_rom_iff a).2 (by omega))
  case ram => exact fun hlo hhi => s.bus_plain v (busTarget_of_ram hlo hhi)
  case unmapped => exact fun hlo hhi => s.bus_unmapped v (busTarget_of_unmapped hlo hhi)
  case oam => exact fun hlo hhi => s.bus_plain v (busTarget_of_oam hlo hhi)
  case prohibited => exact fun hlo hhi => s.bus_prohibited v (busTarget_of_prohibited hlo hhi)
  case periph => exact fun h => s.bus_periph v (busTarget_of_periph h)
  case ifReg => exact fun h => s.bus_ifReg v ((busTarget_ifReg_iff a).2 (BitVec.eq_of_toNat_eq h))
  case stat => exact fun h => s.bus_stat v ((busTarget_stat_iff a).2 (BitVec.eq_of_toNat_eq h))
  case ly => exact fun h => s.bus_ly v ((busTarget_ly_iff a).2 (BitVec.eq_of_toNat_eq h))
  case plainHigh => exact fun hlo hhi h => s.bus_plain v (busTarget_of_plainHigh hlo hhi h)
  case ie => exact fun h => s.bus_ie v ((busTarget_ie_iff a).2 (BitVec.eq_of_toNat_eq h))

/-! ## The loader -/

/-- Installing bytes writes the backing array and nothing else (R53). -/
theorem State.install_eq (bytes : List Byte) (addr : Nat) (s : State) :
    s.install addr bytes = { s with mem := (s.install addr bytes).mem } := by
  induction bytes generalizing addr s with
  | nil => rfl
  | cons v bytes ih => exact ih (addr + 1) { s with mem := s.mem.set addr v }

/-- Outside the image every byte is as before (R53). -/
theorem State.install_get_outside (bytes : List Byte) {addr k : Nat} (s : State)
    (h : k < addr ∨ addr + bytes.length ≤ k) : (s.install addr bytes).mem.get k = s.mem.get k := by
  induction bytes generalizing addr s with
  | nil => rfl
  | cons v bytes ih =>
    simp only [List.length_cons] at h
    have hne : k ≠ addr := by omega
    rw [State.install, ih _ (by omega), Memory.get_set, if_neg hne]

/-- Inside the image each byte is the image's (R53). The first one stays, for the rest is installed above it. -/
theorem State.install_get_inside (bytes : List Byte) {i : Nat} (addr : Nat) (s : State) (h : i < bytes.length) :
    (s.install addr bytes).mem.get (addr + i) = bytes.getD i 0 := by
  induction bytes generalizing addr s i with
  | nil => contradiction
  | cons v bytes ih =>
    rw [State.install]
    cases i with
    | zero => rw [State.install_get_outside _ _ (by omega)]; simp
    | succ i => simpa [Nat.add_right_comm, ← Nat.add_assoc] using ih (addr + 1) _ (Nat.lt_of_succ_lt_succ h)

/-- Settles O51: `load` is the installation of an image that fits. -/
theorem loadInstallsImage : Obligations.LoadInstallsImage := by
  intro base bytes s
  refine ⟨fun h => if_pos h, fun h => ?_⟩
  have hload : s.load base bytes = some (s.install base.toNat bytes) := if_neg (by omega)
  exact ⟨_, hload, State.install_eq bytes _ s, fun i hi => State.install_get_inside bytes _ s hi,
    fun a ha => State.install_get_outside bytes s ha⟩

end Sys2Proof.Machine
end

section
/-! Decoding and encoding are inverse to each other on the well-formed instructions (spec/30_encoding.md R54, R55, R59
to R61). -/

namespace Sys2Proof

/-- Decoding does not look past the instruction: bytes put after the list stay after it (R54). -/
theorem decode_append {bytes after : List Byte} {i : Instr} (h : decode bytes = .ok (i, after)) (rest : List Byte) :
    decode (bytes ++ rest) = .ok (i, after ++ rest) := by
  cases bytes with
  | nil => contradiction
  | cons b0 tail =>
    cases hslot : primarySlot b0 with
    | op j =>
      rw [decode_op hslot] at h
      cases h
      exact decode_op hslot _
    | n8 f =>
      match tail with
      | [] => simp [decode, instrLength, hslot, Slot.length] at h
      | n :: tail =>
        rw [decode_n8 hslot] at h
        cases h
        exact decode_n8 hslot n _
    | n16 f =>
      match tail with
      | [] | [_] => simp [decode, instrLength, hslot, Slot.length] at h
      | lo :: hi :: tail =>
        rw [decode_n16 hslot] at h
        cases h
        exact decode_n16 hslot lo hi _
    | escape =>
      obtain rfl := eq_of_primarySlot_escape hslot
      match tail with
      | [] => contradiction
      | op2 :: tail =>
        rw [decode_escape] at h
        cases h
        exact decode_escape op2 _

/-- Decoding the bytes of a well-formed instruction gives it back. The two maps (R60, R61) and the encoder are compared
row by row; a 16-bit immediate is put together again from its two bytes (R46). -/
theorem decode_encode {i : Instr} (h : i.wellFormed = true) : decode (encode i) = .ok (i, []) := by
  cases i with
  | prefixCb => contradiction
  | ldBcD16 | ldDeD16 | ldHlD16 | ldSpD16 | ldAtA16Sp | ldAtA16A | ldAAtA16
  | jpA16 | jpNzA16 | jpZA16 | jpNcA16 | jpCA16 | callA16 | callNzA16 | callZA16 | callNcA16 | callCA16 =>
    exact decode_n16_word rfl _ []
  | _ => rfl

/-- The bytes of a decoded instruction begin with the first byte read (R54). -/
theorem head_encode_decodeBytes (b0 b1 b2 : Byte) : (encode (decodeBytes b0 b1 b2)).head? = some b0 := by
  obtain ⟨n, hn⟩ := Nat.exists_eq_add_of_le' (instrLength_bounds b0).1
  rw [encode_decodeBytes, hn]
  rfl

/-- The escape is the only row that is not well formed (R193). -/
theorem Instr.wellFormed_or_escape (i : Instr) : i.wellFormed = true ∨ ∃ op2, i = .prefixCb op2 := by
  cases i with
  | prefixCb op2 => exact .inr ⟨op2, rfl⟩
  | _ => exact .inl rfl

/-- The secondary map has no escape of its own (R61). -/
theorem wellFormed_secondaryInstr (op2 : Byte) : (secondaryInstr op2).wellFormed = true := by
  revert op2
  decide

/-- No bytes decode to the escape row: its first byte is 0xCB, and behind 0xCB stands a secondary instruction (R54,
R193). -/
theorem wellFormed_decodeBytes (b0 b1 b2 : Byte) : (decodeBytes b0 b1 b2).wellFormed = true := by
  obtain hwf | ⟨op2, hescape⟩ := (decodeBytes b0 b1 b2).wellFormed_or_escape
  · exact hwf
  · have hhead := head_encode_decodeBytes b0 b1 b2
    rw [hescape] at hhead
    obtain rfl : 0xCB = b0 := Option.some.inj hhead
    exact wellFormed_secondaryInstr b1

end Sys2Proof
end

section
/-! The illegal slots of the primary map are the eleven of spec/30_encoding.md R63. -/

namespace Sys2Proof

/-- The encoding of an illegal row is its opcode byte (R63). -/
theorem encode_illegal (k : IllegalSlot) : encode (.illegal k) = [k.opcode] := by
  cases k <;> rfl

/-- Three bytes are the row of an illegal slot exactly when the first one is its opcode (R63). -/
theorem decodeBytes_eq_illegal_iff (b0 b1 b2 : Byte) (k : IllegalSlot) :
    decodeBytes b0 b1 b2 = .illegal k ↔ k.opcode = b0 := by
  constructor
  · intro h
    have hhead := head_encode_decodeBytes b0 b1 b2
    rw [h, encode_illegal] at hhead
    exact Option.some.inj hhead
  · rintro rfl
    cases k <;> rfl

/-- The opcodes of the illegal slots are the eleven bytes of R63's list. -/
theorem exists_illegalSlot_opcode_iff (b : Byte) :
    (∃ k : IllegalSlot, k.opcode = b) ↔
      b ∈ ([0xD3, 0xDB, 0xDD, 0xE3, 0xE4, 0xEB, 0xEC, 0xED, 0xF4, 0xFC, 0xFD] : List Byte) := by
  constructor
  · rintro ⟨k, rfl⟩
    cases k <;> decide
  · intro h
    obtain ⟨k, -, hk⟩ : ∃ k ∈ [.d3, .db, .dd, .e3, .e4, .eb, .ec, .ed, .f4, .fc, .fd], IllegalSlot.opcode k = b :=
      List.mem_map.1 h
    exact ⟨k, hk⟩

end Sys2Proof
end

section
/-! The statements of spec/30_encoding.md: the round trip in both directions, the illegal slots, and words written
out. -/

namespace Sys2Proof.Machine

/-- Settles O5: the instruction's own bytes decode to it, and the bytes after them are left. -/
theorem decodeOfEncodeIsInstruction : Obligations.DecodeOfEncodeIsInstruction :=
  fun _ rest h => decode_append (decode_encode h) rest

/-- Settles O6: the instruction is what the three bytes decode to. -/
theorem encodeOfDecodeIsBytes : Obligations.EncodeOfDecodeIsBytes := fun b0 b1 b2 rest =>
  ⟨decodeBytes b0 b1 b2, decode_three b0 b1 b2 rest, wellFormed_decodeBytes b0 b1 b2, encode_decodeBytes b0 b1 b2⟩

/-- Settles O8: the illegal rows are at the opcodes of the illegal slots, which are the bytes of the list. -/
theorem illegalSlotsAreEleven : Obligations.IllegalSlotsAreEleven := by
  intro b0 b1 b2
  simp only [decodeBytes_eq_illegal_iff]
  exact exists_illegalSlot_opcode_iff b0

/-- Settles O7: each first byte is looked up in the primary map (R60), and the byte behind the escape in the secondary
map (R61). -/
theorem sampleWordsDecode : Obligations.SampleWordsDecode :=
  ⟨decode_op rfl [], decode_n8 rfl 0x5A [], decode_n16 rfl 0x00 0xC0 [], decode_op rfl [], decode_op rfl [],
    decode_op rfl [], decode_escape 0x7C [], decode_escape 0xCB [], decode_n16 rfl 0x00 0x03 [], decode_op rfl [],
    decode_op rfl [], decode_op rfl []⟩

end Sys2Proof.Machine
end

section
/-! What the 8-bit loads and stores share (spec/40_load8.md): a register write, a bus write, and either with HL moved
after it. Each lemma takes what `exec` of its instruction is and gives the cycles, the effect and the frame. -/

namespace Sys2Proof.Machine

/-! ## The encodings of the groups -/

theorem encode_ldReg (dst src : R8) : encode (.ldReg dst src) = [0b01#2 ++ dst.code ++ src.code] := by
  cases dst <;> cases src <;> rfl

theorem encode_ldRegImm (dst : R8) (n : Byte) : encode (.ldRegImm dst n) = [0b00#2 ++ dst.code ++ 0b110#3, n] := by
  cases dst <;> rfl

theorem encode_ldRegAtHl (dst : R8) : encode (.ldRegAtHl dst) = [0b01#2 ++ dst.code ++ 0b110#3] := by
  cases dst <;> rfl

theorem encode_ldAtHlReg (src : R8) : encode (.ldAtHlReg src) = [0b01110#5 ++ src.code] := by
  cases src <;> rfl

/-! ## Addresses -/

/-- A high-page address is a byte's offset from 0xFF00 (R59). -/
theorem highPage_eq (n : Byte) : highPage n = BitVec.ofNat 16 (0xFF00 + n.toNat) := by
  have hn := n.isLt
  apply BitVec.eq_of_toNat_eq
  rw [highPage, wordOf_toNat, BitVec.toNat_ofNat, Nat.mod_eq_of_lt (by omega)]
  rfl

/-- The address below, modulo 65536. -/
theorem word_sub_one_toNat (w : Word) : (w - 1).toNat = (w.toNat + 65535) % 65536 := by
  simp [BitVec.toNat_sub, Nat.add_comm]

/-! ## Writing a register -/

/-- The draw counter is none of the registers. -/
theorem State.reg_withReads (s : State) (k : Nat) (r : R8) : { s with reads := k }.reg r = s.reg r := by
  cases r <;> rfl

theorem quiet_setReads (s : State) (k : Nat) : Quiet s { s with reads := k } :=
  ⟨⟨⟨rfl, rfl, rfl, rfl⟩, rfl, rfl, rfl, .refl _, id⟩, ⟨rfl, rfl, rfl, rfl⟩⟩

/-- An instruction that writes `v` to one register, and may count bus reads, does only that. -/
theorem exec_setReg_spec {i : Instr} {n : Nat} {s : State} {dst : R8} {v : Byte} (reads : Nat)
    (hexec : exec i s = finish i.slot ({ s with reads := reads }.setReg dst v)) (hn : defaultTaken i = n) :
    ∃ t, exec i s = .next t ∧ Costs i n s t ∧ t.reg dst = v ∧ (∀ r, r ≠ dst → t.reg r = s.reg r) ∧
      t.f = s.f ∧ t.sp = s.sp ∧ t.pc = s.pc ∧ SameSystem s t := by
  have hquiet : Quiet s ({ s with reads := reads }.setReg dst v) := (quiet_setReads s reads).trans (quiet_setReg _ dst v)
  refine ⟨_, hexec, hquiet.costs hn, by simp,
    fun r hr => by simp [hr, State.reg_withReads], by simp, by simp, by simp,
    hquiet.sameSystem _ ?_ ?_ ?_ ?_⟩
  all_goals simp

/-- An instruction that loads a register from an address leaves there the byte read, and counts one read (R204). -/
theorem exec_ldRegFrom_spec {i : Instr} {n : Nat} {s : State} {dst : R8} {addr : Word}
    (hexec : exec i s = finish i.slot (ldRegFrom dst addr s)) (hn : defaultTaken i = n) :
    ∃ t, exec i s = .next t ∧ Costs i n s t ∧ t.reg dst = s.busRead addr ∧ (∀ r, r ≠ dst → t.reg r = s.reg r) ∧
      t.f = s.f ∧ t.sp = s.sp ∧ t.pc = s.pc ∧ SameSystem s t :=
  exec_setReg_spec (s.reads + 1) hexec hn

/-! ## Writing the bus -/

/-- An instruction that makes one bus write does only that. -/
theorem exec_memWrite_spec {i : Instr} {n : Nat} {s : State} {addr : Word} {v : Byte}
    (hexec : exec i s = finish i.slot (s.memWrite addr v)) (hn : defaultTaken i = n) :
    ∃ t, exec i s = .next t ∧ Costs i n s t ∧ WroteByte addr v s t ∧ SameCpu s t ∧ SameRest s t := by
  have hquiet := quiet_memWrite s addr v
  refine ⟨_, hexec, hquiet.costs hn, .of_memWrite rfl rfl rfl rfl ?_ ?_, ⟨fun r => ?_, ?_, ?_, ?_⟩, hquiet.sameRest _⟩
  all_goals simp

/-! ## Moving HL after the access -/

/-- Storing A at HL and then moving HL: the store is at the old HL (R72, R73). -/
theorem exec_storeAThenHl_spec {i : Instr} {n m : Nat} {s : State} {next : Word}
    (hexec : exec i s = finish i.slot (storeAThenHl next s)) (hn : defaultTaken i = n) (hnext : next.toNat = m) :
    ∃ t, exec i s = .next t ∧ Costs i n s t ∧ WroteByte s.hl s.a s t ∧ t.hl.toNat = m ∧
      (∀ r, r ≠ .h → r ≠ .l → t.reg r = s.reg r) ∧ t.f = s.f ∧ t.sp = s.sp ∧ t.pc = s.pc ∧ SameRest s t := by
  have hquiet := quiet_storeAThenHl next s
  refine ⟨_, hexec, hquiet.costs hn, .of_memWrite rfl rfl rfl rfl ?_ ?_, ?_, fun r hh hl => ?_, ?_, ?_, ?_,
    hquiet.sameRest _⟩
  case refine_4 => simp [storeAThenHl, State.setHl_reg _ _ hh hl]
  all_goals simp [storeAThenHl, hnext]

/-- Loading A from HL and then moving HL: the read is at the old HL (R74, R75). -/
theorem exec_loadAThenHl_spec {i : Instr} {n m : Nat} {s : State} {next : Word}
    (hexec : exec i s = finish i.slot (loadAThenHl next s)) (hn : defaultTaken i = n) (hnext : next.toNat = m) :
    ∃ t, exec i s = .next t ∧ Costs i n s t ∧ t.a = s.busRead s.hl ∧ t.hl.toNat = m ∧
      (∀ r, r ≠ .a → r ≠ .h → r ≠ .l → t.reg r = s.reg r) ∧ t.f = s.f ∧ t.sp = s.sp ∧ t.pc = s.pc ∧ SameSystem s t := by
  have hquiet := quiet_loadAThenHl next s
  refine ⟨_, hexec, hquiet.costs hn, rfl, ?_, fun r ha hh hl => ?_, rfl, rfl, rfl,
    hquiet.sameSystem _ rfl rfl rfl rfl⟩
  · simp [loadAThenHl, hnext]
  · simp [loadAThenHl, ldRegFrom, State.setHl_reg _ _ hh hl, ha]

end Sys2Proof.Machine
end

section
/-! The statements of spec/40_load8.md: each form is one of the shared accesses, with its own bytes, cycles and
address. -/

namespace Sys2Proof.Machine

/-- Settles O10: a register write of the source's value. -/
theorem loadRegisterFromRegister : Obligations.LoadRegisterFromRegister := fun dst src s =>
  ⟨encode_ldReg dst src, exec_setReg_spec s.reads (exec_ldReg dst src s) (defaultTaken_ldReg dst src)⟩

/-- Settles O11: a register write of the immediate. -/
theorem loadRegisterImmediate : Obligations.LoadRegisterImmediate := fun dst n s =>
  ⟨encode_ldRegImm dst n, exec_setReg_spec s.reads (exec_ldRegImm dst n s) (defaultTaken_ldRegImm dst n)⟩

/-- Settles O12: a load from the address HL holds before the register write. -/
theorem loadRegisterFromHl : Obligations.LoadRegisterFromHl := fun dst s =>
  ⟨encode_ldRegAtHl dst, exec_ldRegFrom_spec (exec_ldRegAtHl dst s) (defaultTaken_ldRegAtHl dst)⟩

/-- Settles O13: one bus write at HL, of the register and of the immediate. -/
theorem storeAtHl : Obligations.StoreAtHl :=
  ⟨fun src s => ⟨encode_ldAtHlReg src, exec_memWrite_spec (exec_ldAtHlReg src s) (defaultTaken_ldAtHlReg src)⟩,
    fun n s => ⟨rfl, exec_memWrite_spec (exec_ldAtHlD8 n s) (defaultTaken_ldAtHlD8 n)⟩⟩

/-- Settles O14: the store at HL, then HL one up or one down. -/
theorem storeAThenStepHl : Obligations.StoreAThenStepHl := by
  intro up s
  cases up with
  | true => exact ⟨rfl, exec_storeAThenHl_spec (exec_ldAtHlIncA s) rfl (BitVec.toNat_add s.hl 1)⟩
  | false => exact ⟨rfl, exec_storeAThenHl_spec (exec_ldAtHlDecA s) rfl (word_sub_one_toNat s.hl)⟩

/-- Settles O15: the load from HL, then HL one up or one down. -/
theorem loadAThenStepHl : Obligations.LoadAThenStepHl := by
  intro up s
  cases up with
  | true => exact ⟨rfl, exec_loadAThenHl_spec (exec_ldAAtHlInc s) rfl (BitVec.toNat_add s.hl 1)⟩
  | false => exact ⟨rfl, exec_loadAThenHl_spec (exec_ldAAtHlDec s) rfl (word_sub_one_toNat s.hl)⟩

/-- Settles O16: row by row, a load of A from the row's address. -/
theorem loadAFromAddress : Obligations.LoadAFromAddress := by
  intro n a s
  simp only [List.forall_mem_cons, ← highPage_eq]
  refine ⟨?bc, ?de, ?a16, ?a8, ?c, List.forall_mem_nil _⟩
  case bc => exact ⟨rfl, exec_ldRegFrom_spec (exec_ldAAtBc s) rfl⟩
  case de => exact ⟨rfl, exec_ldRegFrom_spec (exec_ldAAtDe s) rfl⟩
  case a16 => exact ⟨rfl, exec_ldRegFrom_spec (exec_ldAAtA16 a s) (defaultTaken_ldAAtA16 a)⟩
  case a8 => exact ⟨rfl, exec_ldRegFrom_spec (exec_ldhAAtA8 n s) (defaultTaken_ldhAAtA8 n)⟩
  case c => exact ⟨rfl, exec_ldRegFrom_spec (exec_ldAAtC s) rfl⟩

/-- Settles O17: row by row, one bus write of A at the row's address. -/
theorem storeAToAddress : Obligations.StoreAToAddress := by
  intro n a s
  simp only [List.forall_mem_cons, ← highPage_eq]
  refine ⟨?bc, ?de, ?a16, ?a8, ?c, List.forall_mem_nil _⟩
  case bc => exact ⟨rfl, exec_memWrite_spec (exec_ldAtBcA s) rfl⟩
  case de => exact ⟨rfl, exec_memWrite_spec (exec_ldAtDeA s) rfl⟩
  case a16 => exact ⟨rfl, exec_memWrite_spec (exec_ldAtA16A a s) (defaultTaken_ldAtA16A a)⟩
  case a8 => exact ⟨rfl, exec_memWrite_spec (exec_ldhAtA8A n s) (defaultTaken_ldhAtA8A n)⟩
  case c => exact ⟨rfl, exec_memWrite_spec (exec_ldAtCA s) rfl⟩

end Sys2Proof.Machine
end

section
/-! What the 16-bit loads and the stack share (spec/41_load16_stack.md): the encodings of the pair groups, a pair write,
the two byte writes of a word, and the register side of a pop. -/

namespace Sys2Proof.Machine

/-! ## The encodings of the groups -/

theorem encode_ldPair (p : R16) (n : Word) :
    encode (.ldPair p n) = [0b00#2 ++ p.code ++ 0b0001#4, loByte n, hiByte n] := by
  cases p <;> rfl

theorem encode_push (p : R16Stk) : encode (.push p) = [0b11#2 ++ p.code ++ 0b0101#4] := by
  cases p <;> rfl

theorem encode_pop (p : R16Stk) : encode (.pop p) = [0b11#2 ++ p.code ++ 0b0001#4] := by
  cases p <;> rfl

/-! ## Writing a pair -/

/-- A pair write stores nothing. -/
theorem sameSystem_setPair (s : State) (p : R16) (v : Word) (n : Nat) :
    SameSystem s ((s.setPair p v).setCycles n) :=
  (quiet_setPair s p v).sameSystem n (by simp) (by simp) (by simp) (by simp)

/-- A pair of the stack group read after it is written, for each pair that holds its 16 bits (R57). -/
theorem State.stkPair_setStkPair_self (s : State) {p : R16Stk} (hp : p ≠ .af) (v : Word) :
    (s.setStkPair p v).stkPair p = v := by
  cases p with
  | bc => exact wordOf_lo_hi v
  | de => exact wordOf_lo_hi v
  | hl => exact wordOf_lo_hi v
  | af => exact absurd rfl hp

/-- A write to a pair of the stack group leaves the other pairs of the group. -/
theorem State.stkPair_setStkPair_ne (s : State) {p q : R16Stk} (hq : q ≠ p) (v : Word) :
    (s.setStkPair p v).stkPair q = s.stkPair q := by
  cases p <;> cases q <;> first | rfl | contradiction

/-- The pairs of the stack group are registers, which a pop's reads leave. -/
theorem State.afterPop_stkPair (s : State) (p : R16Stk) : s.afterPop.stkPair p = s.stkPair p := by
  cases p <;> rfl

/-- Writing a byte to F gives the flags in its bits 7 to 4 (R15, R17). -/
theorem State.setF_hasFlags (s : State) (v : Byte) :
    HasFlags (s.setF v) (v.getLsbD 7) (v.getLsbD 6) (v.getLsbD 5) (v.getLsbD 4) where
  z := by simp [State.flagZ]
  n := by simp [State.flagN]
  h := by simp [State.flagH]
  c := by simp [State.flagC]
  low := by simp [BitVec.and_assoc]

/-! ## Writing a word to memory -/

/-- The second byte write of a word: the high byte at the next address (R10). -/
theorem State.memWrite16_wrote_high (s : State) (addr v : Word) :
    WroteByte (addr + 1) (hiByte v) (s.memWrite addr (loByte v)) (s.memWrite16 addr v) :=
  State.memWrite_wrote _ _ _

/-- `WroteByte` does not look at the instruction's cycles. -/
theorem WroteByte.setCycles {addr : Word} {v : Byte} {s t : State} (h : WroteByte addr v s t) (n : Nat) :
    WroteByte addr v s (t.setCycles n) :=
  h.congr rfl rfl rfl rfl rfl rfl rfl rfl rfl rfl rfl rfl

/-- The next address, modulo 65536. -/
theorem word_add_one_eq (a : Word) : a + 1 = BitVec.ofNat 16 (a.toNat + 1) := by
  apply BitVec.eq_of_toNat_eq
  simp

end Sys2Proof.Machine
end

section
/-! The statements of spec/41_load16_stack.md. -/

namespace Sys2Proof.Machine

/-- Settles O19: the two byte writes of a word at the address. -/
theorem storeSpAtAddress : Obligations.StoreSpAtAddress := by
  intro a s
  have hquiet := quiet_memWrite16 s a s.sp
  rw [← loByte_eq, ← hiByte_eq, ← word_add_one_eq]
  refine ⟨rfl, _, _, exec_ldAtA16Sp a s, hquiet.costs (defaultTaken_ldAtA16Sp a), State.memWrite_wrote s a _,
    (State.memWrite16_wrote_high s a s.sp).setCycles _, ⟨fun r => ?_, ?_, ?_, ?_⟩, hquiet.sameRest _⟩
  all_goals simp

/-- Settles O20: the two byte writes of a push. -/
theorem pushStoresPair : Obligations.PushStoresPair := by
  intro p s
  have hquiet := quiet_push16 s (s.stkPair p)
  refine ⟨encode_push p, _, _, exec_push p s, hquiet.costs (defaultTaken_push p), State.push16_wrote_high s _,
    (State.push16_wrote_low s _).setCycles _, ?_, fun r => ?_, ?_, ?_, hquiet.sameRest _⟩
  all_goals simp

/-- Settles O21: a write of the popped value to the pair, which for AF is a write to A and a masked one to F. -/
theorem popLoadsPair : Obligations.PopLoadsPair := by
  intro p s lo hi
  have hquiet := quiet_popPair p s
  refine ⟨encode_pop p, _, exec_pop p s, hquiet.costs (defaultTaken_pop p), ?sp, fun hp => ?pair, ?af,
    fun q hq => ?others, ?pc, hquiet.sameSystem _ ?mem ?ifReg ?ie ?events⟩
  case pair =>
    rw [State.setCycles_stkPair, popPair, State.stkPair_setStkPair_self _ hp]
    exact wordOf_toNat lo hi
  case af =>
    rintro rfl
    have hlo : loByte s.popValue = lo := loByte_wordOf lo hi
    have hf : (popPair .af s).f = lo &&& 0xF0 := congrArg (· &&& 0xF0) hlo
    exact ⟨hiByte_wordOf lo hi, hf, (State.setF_hasFlags s lo).congr hf⟩
  case others =>
    rw [State.setCycles_stkPair, popPair, State.stkPair_setStkPair_ne _ hq, State.afterPop_stkPair]
  all_goals simp [popPair]

/-- Settles O18: a pair write of the immediate, and one of HL to SP. -/
theorem loadPair : Obligations.LoadPair := by
  constructor
  · intro p n s
    have hquiet := quiet_setPair s p n
    refine ⟨encode_ldPair p n, _, exec_ldPair p n s, hquiet.costs (defaultTaken_ldPair p n), ?_, fun q hq => ?others,
      ?_, ?_, ?_, sameSystem_setPair s p n _⟩
    case others => simp [hq]
    all_goals simp
  · intro s
    exact ⟨rfl, _, exec_ldSpHl s, (quiet_setPair s .sp s.hl).costs rfl, rfl, .of_eq rfl rfl rfl rfl rfl rfl rfl,
      rfl, rfl, sameSystem_setPair s .sp s.hl _⟩

end Sys2Proof.Machine
end

section
/-! What the 8-bit arithmetic shares (spec/42_alu8.md): a result written to a register with its flags, to the byte at HL
with its flags, and the flags alone. Each lemma takes what `exec` of its instruction is and gives the cycles, the effect
and the frame. -/

namespace Sys2Proof.Machine

/-! ## The encodings of the groups -/

theorem encode_alu (op : AluOp) (src : AluSrc) : encode (.alu op src) = aluBytes op src := by
  rcases src with (r | _) | n
  · cases op <;> cases r <;> rfl
  · cases op <;> rfl
  · cases op <;> rfl

theorem encode_inc8_reg (r : R8) : encode (.inc8 (.reg r)) = [0b00#2 ++ r.code ++ 0b100#3] := by
  cases r <;> rfl

theorem encode_dec8_reg (r : R8) : encode (.dec8 (.reg r)) = [0b00#2 ++ r.code ++ 0b101#3] := by
  cases r <;> rfl

/-! ## Writing the flags alone -/

/-- Four flags and a zero low nibble are all of F (R15, R17). -/
theorem HasFlags.f_eq {t : State} {z n h c : Bool} (ht : HasFlags t z n h c) : t.f = flagByte z n h c := by
  have hbits : ∀ f : Byte, f &&& 0x0F = 0 →
      f = flagByte (f.getLsbD 7) (f.getLsbD 6) (f.getLsbD 5) (f.getLsbD 4) := by decide
  obtain ⟨rfl, rfl, rfl, rfl, hlow⟩ := ht
  exact hbits t.f hlow

/-- An instruction that writes the four flags, and may count bus reads, does only that. -/
theorem exec_setFlags_spec {i : Instr} {m : Nat} {s : State} {z n h c : Bool} (reads : Nat)
    (hexec : exec i s = finish i.slot ({ s with reads := reads }.setFlags z n h c)) (hm : defaultTaken i = m) :
    ∃ t, exec i s = .next t ∧ Costs i m s t ∧ HasFlags t z n h c ∧ SameRegs s t ∧ t.sp = s.sp ∧ t.pc = s.pc ∧
      SameSystem s t := by
  have hquiet : Quiet s ({ s with reads := reads }.setFlags z n h c) :=
    (quiet_setReads s reads).trans (quiet_setFlags _ z n h c)
  exact ⟨_, hexec, hquiet.costs hm, (State.setFlags_hasFlags s z n h c).congr rfl, .of_eq rfl rfl rfl rfl rfl rfl rfl,
    rfl, rfl, hquiet.sameSystem _ rfl rfl rfl rfl⟩

/-! ## Writing a result to a register -/

/-- The instruction takes `m` cycles by default and leaves the result `r` in the register `dst` and its flags in F;
everything else is unchanged. -/
def WritesResult (i : Instr) (m : Nat) (s : State) (dst : R8) (r : Flagged 8) : Prop :=
  ∃ t, exec i s = .next t ∧ Costs i m s t ∧ t.reg dst = r.res ∧ HasFlags t r.z r.n r.h r.c ∧
    (∀ q, q ≠ dst → t.reg q = s.reg q) ∧ t.sp = s.sp ∧ t.pc = s.pc ∧ SameSystem s t

theorem writesResult_of_exec {i : Instr} {m : Nat} {s : State} {dst : R8} {r : Flagged 8} (reads : Nat)
    (hexec : exec i s = finish i.slot (setResultFlags r ({ s with reads := reads }.setReg dst r.res)))
    (hm : defaultTaken i = m) : WritesResult i m s dst r := by
  have hquiet : Quiet s (setResultFlags r ({ s with reads := reads }.setReg dst r.res)) :=
    ((quiet_setReads s reads).trans (quiet_setReg _ dst r.res)).trans (quiet_setResultFlags r _)
  refine ⟨_, hexec, hquiet.costs hm, ?_, hasFlags_of_result (s := s) rfl, fun q hq => ?_, ?_, ?_,
    hquiet.sameSystem _ ?_ ?_ ?_ ?_⟩
  case refine_2 => simp [setResultFlags, hq, State.reg_withReads]
  all_goals simp [setResultFlags]

/-- `WritesResult` in the terms of what is known of the result, as a number, and of its flags. -/
theorem WritesResult.of_spec {i : Instr} {m : Nat} {s : State} {dst : R8} {r : Flagged 8} {z n h c : Bool}
    {α : Type} {x : α} (hwrites : WritesResult i m s dst r) (value : Byte → α)
    (hr : value r.res = x ∧ r.z = z ∧ r.n = n ∧ r.h = h ∧ r.c = c) :
    ∃ t, exec i s = .next t ∧ Costs i m s t ∧ value (t.reg dst) = x ∧ HasFlags t z n h c ∧
      (∀ q, q ≠ dst → t.reg q = s.reg q) ∧ t.sp = s.sp ∧ t.pc = s.pc ∧ SameSystem s t := by
  obtain ⟨hres, rfl, rfl, rfl, rfl⟩ := hr
  obtain ⟨t, hexec, hcosts, ht, hflags, hframe⟩ := hwrites
  exact ⟨t, hexec, hcosts, ht ▸ hres, hflags, hframe⟩

/-- Reading the second ALU operand does nothing but count its bus read, if it makes one. -/
theorem State.afterAluSrc_eq (s : State) (src : AluSrc) :
    s.afterAluSrc src = { s with reads := (s.afterAluSrc src).reads } := by
  rcases src with (r | _) | n <;> rfl

/-- Every ALU operation but CP writes A (R94). -/
theorem aluStep_eq {op : AluOp} (hop : op ≠ .cp) (src : AluSrc) (s : State) :
    let r := aluResult op s.a (s.aluSrc src) s.flagC
    aluStep op src s = setResultFlags r ((s.afterAluSrc src).setReg .a r.res) := by
  cases op with
  | cp => contradiction
  | _ => rfl

theorem writesResult_alu {op : AluOp} (hop : op ≠ .cp) (src : AluSrc) (s : State) :
    WritesResult (.alu op src) (aluCycles src) s .a (aluResult op s.a (s.aluSrc src) s.flagC) := by
  refine writesResult_of_exec (s.afterAluSrc src).reads ?_ (defaultTaken_alu op src)
  rw [exec_alu, aluStep_eq hop, ← State.afterAluSrc_eq]

/-- The bitwise operations: A is `res`, whose bits are those of the operation `bit` (R99 to R101). -/
theorem exec_logic_spec {op : AluOp} {res : Byte} {h : Bool} (bit : Bool → Bool → Bool) (hop : op ≠ .cp) (src : AluSrc)
    (s : State) (hresult : aluResult op s.a (s.aluSrc src) s.flagC = aluLogic res h)
    (hbits : ∀ k < 8, res.getLsbD k = bit (s.a.getLsbD k) ((s.aluSrc src).getLsbD k)) :
    ∃ t, exec (.alu op src) s = .next t ∧ Costs (.alu op src) (aluCycles src) s t ∧
      (∀ k < 8, t.a.getLsbD k = bit (s.a.getLsbD k) ((s.aluSrc src).getLsbD k)) ∧
      HasFlags t (decide (t.a = 0)) false h false ∧
      (∀ r, r ≠ .a → t.reg r = s.reg r) ∧ t.sp = s.sp ∧ t.pc = s.pc ∧ SameSystem s t := by
  obtain ⟨t, hexec, hcosts, ha, hflags, hframe⟩ := writesResult_alu hop src s
  rw [hresult] at ha hflags
  obtain rfl : t.a = res := ha
  exact ⟨t, hexec, hcosts, hbits, hflags, hframe⟩

/-- CP writes its flags and discards the result (R102). -/
theorem exec_cp_spec (src : AluSrc) (s : State) :
    let r := aluSub s.a (s.aluSrc src) false
    ∃ t, exec (.alu .cp src) s = .next t ∧ Costs (.alu .cp src) (aluCycles src) s t ∧ HasFlags t r.z r.n r.h r.c ∧
      SameRegs s t ∧ t.sp = s.sp ∧ t.pc = s.pc ∧ SameSystem s t := by
  refine exec_setFlags_spec (s.afterAluSrc src).reads ?_ (defaultTaken_alu .cp src)
  rw [exec_alu, ← State.afterAluSrc_eq]
  rfl

theorem writesResult_inc8_reg (r : R8) (s : State) :
    WritesResult (.inc8 (.reg r)) 4 s r (incResult (s.reg r) s.flagC) :=
  writesResult_of_exec s.reads (exec_inc8 (.reg r) s) (defaultTaken_inc8_reg r)

theorem writesResult_dec8_reg (r : R8) (s : State) :
    WritesResult (.dec8 (.reg r)) 4 s r (decResult (s.reg r) s.flagC) :=
  writesResult_of_exec s.reads (exec_dec8 (.reg r) s) (defaultTaken_dec8_reg r)

theorem writesResult_daa (s : State) : WritesResult .daa 4 s .a (daaResult s.a s.flagN s.flagH s.flagC) :=
  writesResult_of_exec s.reads (exec_daa s) rfl

theorem writesResult_cpl (s : State) :
    WritesResult .cpl 4 s .a { res := ~~~s.a, z := s.flagZ, n := true, h := true, c := s.flagC } :=
  writesResult_of_exec s.reads (exec_cpl s) rfl

/-! ## Writing a result back to the byte at HL -/

/-- Reading the byte at HL and writing one back is one bus write at HL (R56). -/
theorem State.writeBack_atHl_wrote (s : State) (v : Byte) :
    WroteByte s.hl v s ((s.afterOperand .atHl).setOperand .atHl v) :=
  (State.memWrite_wrote s.countRead s.hl v).congr rfl rfl rfl rfl rfl rfl rfl rfl rfl rfl rfl rfl

/-- `WroteByte` does not look at the flags. -/
theorem WroteByte.setFlags {addr : Word} {v : Byte} {s t : State} (hw : WroteByte addr v s t) (z n h c : Bool) :
    WroteByte addr v s (t.setFlags z n h c) :=
  hw.congr rfl rfl rfl rfl rfl rfl rfl rfl rfl rfl rfl rfl

/-- An instruction that writes a result back to the byte at HL, and its flags, does only that. -/
theorem exec_writeBack_atHl_spec {i : Instr} {m v : Nat} {s : State} {r : Flagged 8} {z n h c : Bool}
    (hexec : exec i s = finish i.slot (setResultFlags r ((s.afterOperand .atHl).setOperand .atHl r.res)))
    (hm : defaultTaken i = m) (hr : r.res.toNat = v ∧ r.z = z ∧ r.n = n ∧ r.h = h ∧ r.c = c) :
    ∃ t, exec i s = .next t ∧ Costs i m s t ∧ WroteByte s.hl (BitVec.ofNat 8 v) s t ∧ HasFlags t z n h c ∧
      SameRegs s t ∧ t.sp = s.sp ∧ t.pc = s.pc ∧ SameRest s t := by
  obtain ⟨rfl, rfl, rfl, rfl, rfl⟩ := hr
  rw [BitVec.ofNat_toNat, BitVec.setWidth_eq]
  have hquiet := (quiet_writeBack s .atHl r.res).trans (quiet_setResultFlags r _)
  have hwrote := (State.writeBack_atHl_wrote s r.res).setFlags r.z r.n r.h r.c
  refine ⟨_, hexec, hquiet.costs hm, hwrote.setCycles _, hasFlags_of_result (s := s) rfl,
    fun q => ?_, ?_, ?_, hquiet.sameRest _⟩
  all_goals simp [setResultFlags, State.setOperand]

/-! ## The decimal correction -/

/-- One correction of DAA (R131): if it is due, the byte `k` is added to `a` or, after a subtraction, subtracted. -/
theorem correction_toNat (a k : Byte) (n due : Bool) :
    ((if due then (if n then a - k else a + k) else a).toNat : Int) =
      (if n then (a.toNat : Int) - (if due then (k.toNat : Int) else 0)
        else a.toNat + (if due then (k.toNat : Int) else 0)) % 256 := by
  have ha := a.isLt
  have hk := k.isLt
  cases due with
  | false => cases n <;> simp only [Bool.false_eq_true, if_true, if_false] <;> omega
  | true => cases n <;> simp only [Bool.false_eq_true, if_true, if_false, BitVec.toNat_add, BitVec.toNat_sub] <;> omega

/-- The high correction, a multiple of 16, leaves the low nibble. -/
theorem nibble_highCorrection (a : Byte) (due : Bool) : nibble (if due then a + 0x60 else a) = a.toNat % 16 := by
  cases due with
  | false => exact nibble_eq a
  | true =>
    have hsum : (a + 0x60).toNat = (a.toNat + 0x60) % 256 := BitVec.toNat_add a 0x60
    rw [if_pos rfl, nibble_eq, hsum]
    omega

/-- DAA (R131). -/
theorem daaResult_spec (a : Byte) (n h c : Bool) :
    let high := c || (!n && decide (a.toNat > 0x99))
    let low := h || (!n && decide (a.toNat % 16 > 0x09))
    let amount : Int := (if high then 0x60 else 0) + (if low then 0x06 else 0)
    let res : Int := (if n then a.toNat - amount else a.toNat + amount) % 256
    ((daaResult a n h c).res.toNat : Int) = res ∧ (daaResult a n h c).z = decide (res = 0) ∧
    (daaResult a n h c).n = n ∧ (daaResult a n h c).h = false ∧ (daaResult a n h c).c = high := by
  intro high low amount res
  have hhigh : (if n then c else c || decide (a.toNat > 0x99)) = high := by cases n <;> simp [high]
  have hlow : (if n then h else h || decide (nibble (if high then (if n then a - 0x60 else a + 0x60) else a) > 0x09)) =
      low := by
    cases n with
    | false => simp only [Bool.false_eq_true, if_false, nibble_highCorrection]; simp [low]
    | true => simp [low]
  have hres : ((daaResult a n h c).res.toNat : Int) = res := by
    simp only [daaResult, hhigh, hlow, correction_toNat, res, amount]
    cases n with
    | false =>
      simp only [Bool.false_eq_true, if_false]
      exact (Int.emod_add_emod _ _ _).trans (congrArg (· % 256) (Int.add_assoc _ _ _))
    | true =>
      simp only [if_true]
      exact (Int.emod_sub_emod _ _ _).trans (congrArg (· % 256) (Int.sub_sub _ _ _))
  have hz : (daaResult a n h c).z = decide ((daaResult a n h c).res.toNat = 0) := byte_beq_zero _
  exact ⟨hres, by simp [hz, ← hres], rfl, rfl, hhigh⟩

end Sys2Proof.Machine
end

section
/-! The statements of spec/42_alu8.md. -/

namespace Sys2Proof.Machine

/-- Settles O22: ADC is the addition with the flag C carried in, ADD the one with no carry. -/
theorem addWithAndWithoutCarry : Obligations.AddWithAndWithoutCarry := by
  intro withCarry src s
  cases withCarry with
  | false =>
    have hwrites := writesResult_alu (op := .add) (by decide) src s
    exact ⟨encode_alu .add src, hwrites.of_spec BitVec.toNat (aluAdd_spec _ _ false)⟩
  | true =>
    have hwrites := writesResult_alu (op := .adc) (by decide) src s
    exact ⟨encode_alu .adc src, hwrites.of_spec BitVec.toNat (aluAdd_spec _ _ s.flagC)⟩

/-- Settles O23: SBC is the subtraction with the flag C borrowed, SUB the one with no borrow. -/
theorem subtractWithAndWithoutBorrow : Obligations.SubtractWithAndWithoutBorrow := by
  intro withCarry src s
  cases withCarry with
  | false =>
    have hwrites := writesResult_alu (op := .sub) (by decide) src s
    exact ⟨encode_alu .sub src, hwrites.of_spec (fun r => (r.toNat : Int)) (aluSub_spec _ _ false)⟩
  | true =>
    have hwrites := writesResult_alu (op := .sbc) (by decide) src s
    exact ⟨encode_alu .sbc src, hwrites.of_spec (fun r => (r.toNat : Int)) (aluSub_spec _ _ s.flagC)⟩

/-- Settles O24: row by row, the bits of A are those of the bitwise operation. -/
theorem logicOperations : Obligations.LogicOperations := by
  intro src s
  simp only [List.forall_mem_cons]
  refine ⟨⟨encode_alu _ src, ?and⟩, ⟨encode_alu _ src, ?xor⟩, ⟨encode_alu _ src, ?or⟩, List.forall_mem_nil _⟩
  case and => exact exec_logic_spec (· && ·) (by decide) src s rfl fun _ _ => BitVec.getLsbD_and
  case xor => exact exec_logic_spec (· != ·) (by decide) src s rfl fun _ _ => BitVec.getLsbD_xor
  case or => exact exec_logic_spec (· || ·) (by decide) src s rfl fun _ _ => BitVec.getLsbD_or

/-- Settles O25: CP leaves the flags of the subtraction with no borrow, and SUB the same F. -/
theorem compareSetsFlagsOnly : Obligations.CompareSetsFlagsOnly := by
  intro src s a v
  obtain ⟨-, hz, hn, hh, hc⟩ := aluSub_spec s.a (s.aluSrc src) false
  obtain ⟨t, hexec, hcosts, hflags, hframe⟩ := exec_cp_spec src s
  obtain ⟨u, hsub, -, -, hsubFlags, -⟩ := writesResult_alu (op := .sub) (by decide) src s
  have hf : u.f = t.f := hsubFlags.f_eq.trans hflags.f_eq.symm
  have hequal : decide (((a : Int) - v - (false.toNat : Int)) % 256 = 0) = decide (a = v) := by
    have ha : a < 256 := s.a.isLt
    have hv : v < 256 := (s.aluSrc src).isLt
    exact decide_eq_decide.2 (by rw [Bool.toNat_false]; omega)
  rw [hz, hn, hh, hc, hequal] at hflags
  exact ⟨encode_alu .cp src, t, hexec, hcosts, hflags, ⟨u, hsub, hf⟩, hframe⟩

/-- Settles O26: a register write of the incremented or decremented value, with its flags. -/
theorem incDecRegister : Obligations.IncDecRegister :=
  ⟨fun r s => ⟨encode_inc8_reg r, (writesResult_inc8_reg r s).of_spec BitVec.toNat (incResult_spec _ _)⟩,
    fun r s => ⟨encode_dec8_reg r, (writesResult_dec8_reg r s).of_spec BitVec.toNat (decResult_spec _ _)⟩⟩

/-- Settles O27: one bus write at HL of the incremented or decremented byte, with its flags. -/
theorem incDecAtHl : Obligations.IncDecAtHl := by
  intro up s
  cases up with
  | true => exact ⟨rfl, exec_writeBack_atHl_spec (exec_inc8 .atHl s) rfl (incResult_spec _ _)⟩
  | false => exact ⟨rfl, exec_writeBack_atHl_spec (exec_dec8 .atHl s) rfl (decResult_spec _ _)⟩

/-- Settles O28: A and the flags are those of the decimal correction. -/
theorem decimalAdjust : Obligations.DecimalAdjust :=
  fun s => ⟨rfl, (writesResult_daa s).of_spec (fun r => (r.toNat : Int)) (daaResult_spec s.a s.flagN s.flagH s.flagC)⟩

/-- Settles O29: CPL writes A and the flags, SCF and CCF the flags alone. -/
theorem complementAndCarryFlags : Obligations.ComplementAndCarryFlags := by
  intro s
  refine ⟨⟨rfl, ?cpl⟩, ⟨rfl, ?scf⟩, ⟨rfl, ?ccf⟩⟩
  case cpl => exact (writesResult_cpl s).of_spec BitVec.toNat ⟨BitVec.toNat_not, rfl, rfl, rfl, rfl⟩
  case scf => exact exec_setFlags_spec s.reads (exec_scf s) rfl
  case ccf => exact exec_setFlags_spec s.reads (exec_ccf s) rfl

end Sys2Proof.Machine
end

section
/-! What the 16-bit arithmetic shares (spec/43_alu16.md): a pair written alone, and a result written to HL or to SP with
its flags. Each lemma takes what `exec` of its instruction is and gives the cycles, the effect and the frame. -/

namespace Sys2Proof.Machine

/-! ## The encodings of the groups -/

theorem encode_addHl (p : R16) : encode (.addHl p) = [0b00#2 ++ p.code ++ 0b1001#4] := by
  cases p <;> rfl

theorem encode_incPair (p : R16) : encode (.incPair p) = [0b00#2 ++ p.code ++ 0b0011#4] := by
  cases p <;> rfl

theorem encode_decPair (p : R16) : encode (.decPair p) = [0b00#2 ++ p.code ++ 0b1011#4] := by
  cases p <;> rfl

/-! ## Writing a pair alone -/

/-- An instruction that writes the number `k` to one pair does only that. -/
theorem exec_setPair_spec {i : Instr} {m k : Nat} {s : State} {p : R16} {v : Word}
    (hexec : exec i s = finish i.slot (s.setPair p v)) (hm : defaultTaken i = m) (hv : v.toNat = k) :
    ∃ t, exec i s = .next t ∧ Costs i m s t ∧ (t.pair p).toNat = k ∧ (∀ q, q ≠ p → t.pair q = s.pair q) ∧
      t.a = s.a ∧ t.f = s.f ∧ t.pc = s.pc ∧ SameSystem s t := by
  refine ⟨_, hexec, (quiet_setPair s p v).costs hm, ?value, fun q hq => ?others, ?_, ?_, ?_, sameSystem_setPair s p v _⟩
  case value => simp [hv]
  case others => simp [hq]
  all_goals simp

/-! ## Writing a result with its flags -/

/-- An instruction that leaves a result in HL and its flags in F does only that; `value` is the number the result is
read as. -/
theorem exec_setHlResult_spec {i : Instr} {m : Nat} {s : State} {r : Flagged 16} {z n h c : Bool} {α : Type} {x : α}
    (value : Word → α) (hexec : exec i s = finish i.slot (setResultFlags r (s.setHl r.res)))
    (hm : defaultTaken i = m) (hr : value r.res = x ∧ r.z = z ∧ r.n = n ∧ r.h = h ∧ r.c = c) :
    ∃ t, exec i s = .next t ∧ Costs i m s t ∧ value t.hl = x ∧ HasFlags t z n h c ∧
      (∀ q, q ≠ .h → q ≠ .l → t.reg q = s.reg q) ∧ t.sp = s.sp ∧ t.pc = s.pc ∧ SameSystem s t := by
  obtain ⟨rfl, rfl, rfl, rfl, rfl⟩ := hr
  have hquiet := (quiet_setHl s r.res).trans (quiet_setResultFlags r _)
  refine ⟨_, hexec, hquiet.costs hm, congrArg value (State.hl_setHl s r.res), hasFlags_of_result (s := s) rfl,
    fun q hh hl => ?_, rfl, rfl, hquiet.sameSystem _ rfl rfl rfl rfl⟩
  simp [setResultFlags, State.setHl_reg s r.res hh hl]

/-- An instruction that leaves a result in SP and its flags in F does only that; `value` is the number the result is
read as. -/
theorem exec_setSpResult_spec {i : Instr} {m : Nat} {s : State} {r : Flagged 16} {z n h c : Bool} {α : Type} {x : α}
    (value : Word → α) (hexec : exec i s = finish i.slot (setResultFlags r (s.setPair .sp r.res)))
    (hm : defaultTaken i = m) (hr : value r.res = x ∧ r.z = z ∧ r.n = n ∧ r.h = h ∧ r.c = c) :
    ∃ t, exec i s = .next t ∧ Costs i m s t ∧ value t.sp = x ∧ HasFlags t z n h c ∧ SameRegs s t ∧ t.pc = s.pc ∧
      SameSystem s t := by
  obtain ⟨rfl, rfl, rfl, rfl, rfl⟩ := hr
  have hquiet := (quiet_setPair s .sp r.res).trans (quiet_setResultFlags r _)
  exact ⟨_, hexec, hquiet.costs hm, rfl, hasFlags_of_result (s := s) rfl, .of_eq rfl rfl rfl rfl rfl rfl rfl, rfl,
    hquiet.sameSystem _ rfl rfl rfl rfl⟩

end Sys2Proof.Machine
end

section
/-! The statements of spec/43_alu16.md. -/

namespace Sys2Proof.Machine

/-- Settles O30: a write to HL of the sum, with its flags and Z kept. -/
theorem addPairToHl : Obligations.AddPairToHl := fun p s =>
  ⟨encode_addHl p, exec_setHlResult_spec BitVec.toNat (exec_addHl p s) (defaultTaken_addHl p)
    (addHlResult_spec s.hl (s.pair p) s.flagZ)⟩

/-- Settles O31: a pair write of the next or the previous word, modulo 65536. -/
theorem incDecPair : Obligations.IncDecPair := by
  intro up p s
  cases up with
  | true =>
    exact ⟨encode_incPair p, exec_setPair_spec (exec_incPair p s) (defaultTaken_incPair p)
      (BitVec.toNat_add (s.pair p) 1)⟩
  | false =>
    exact ⟨encode_decPair p, exec_setPair_spec (exec_decPair p s) (defaultTaken_decPair p)
      (word_sub_one_toNat (s.pair p))⟩

/-- Settles O32: one result, SP plus the signed offset, written with its flags to SP and to HL. -/
theorem spPlusOffset : Obligations.SpPlusOffset := by
  intro e s sum h c
  have hresult := addSpResult_spec s.sp e
  exact ⟨⟨rfl, exec_setSpResult_spec (fun w => (w.toNat : Int)) (exec_addSpE8 e s) (defaultTaken_addSpE8 e) hresult⟩,
    ⟨rfl, exec_setHlResult_spec (fun w => (w.toNat : Int)) (exec_ldHlSpE8 e s) (defaultTaken_ldHlSpE8 e) hresult⟩⟩

end Sys2Proof.Machine
end

section
/-! What the rotates, shifts and single-bit operations share (spec/44_rotate_bit.md): the encodings of the secondary
blocks, the flags of a rotate or shift, and a byte written with one bit changed. -/

namespace Sys2Proof.Machine

/-! ## The encodings of the secondary blocks -/

theorem encode_rot (op : RotOp) (o : Operand8) :
    encode (.rot op o) = [0b11001011, 0b00#2 ++ op.code ++ o.code] := by
  rcases o with r | _
  · cases op <;> cases r <;> rfl
  · cases op <;> rfl

theorem encode_bitTest (n : Fin 8) (o : Operand8) :
    encode (.bitTest n o) = [0b11001011, 0b01#2 ++ BitVec.ofNat 3 n.val ++ o.code] := by
  rcases o with r | _
  · fin_cases n <;> cases r <;> rfl
  · fin_cases n <;> rfl

theorem encode_bitRes (n : Fin 8) (o : Operand8) :
    encode (.bitRes n o) = [0b11001011, 0b10#2 ++ BitVec.ofNat 3 n.val ++ o.code] := by
  rcases o with r | _
  · fin_cases n <;> cases r <;> rfl
  · fin_cases n <;> rfl

theorem encode_bitSet (n : Fin 8) (o : Operand8) :
    encode (.bitSet n o) = [0b11001011, 0b11#2 ++ BitVec.ofNat 3 n.val ++ o.code] := by
  rcases o with r | _
  · fin_cases n <;> cases r <;> rfl
  · fin_cases n <;> rfl

/-! ## Rotates and shifts -/

/-- A rotate or shift with its flags Z00C (R144). -/
theorem rotResult_spec (op : RotOp) (v : Byte) (c : Bool) :
    (rotResult op v c).res.toNat = shiftValue op v.toNat c.toNat ∧
    (rotResult op v c).z = decide (shiftValue op v.toNat c.toNat = 0) ∧ (rotResult op v c).n = false ∧
    (rotResult op v c).h = false ∧ (rotResult op v c).c = shiftCarry op v.toNat := by
  obtain ⟨hvalue, hcarry⟩ := shiftResult_spec op v c
  refine ⟨hvalue, ?zero, rfl, rfl, hcarry⟩
  case zero => exact (byte_beq_zero _).trans (by rw [hvalue])

/-- An accumulator rotate has the value and the carry of the rotate, and Z clear (R140 to R143). -/
theorem rotAccResult_spec (op : RotOp) (v : Byte) (c : Bool) :
    (rotAccResult op v c).res.toNat = shiftValue op v.toNat c.toNat ∧ (rotAccResult op v c).z = false ∧
    (rotAccResult op v c).n = false ∧ (rotAccResult op v c).h = false ∧
    (rotAccResult op v c).c = shiftCarry op v.toNat := by
  obtain ⟨hvalue, -, hn, hh, hcarry⟩ := rotResult_spec op v c
  exact ⟨hvalue, rfl, hn, hh, hcarry⟩

/-- An accumulator rotate writes A and its flags (R140 to R143). -/
theorem exec_rotAcc_spec {i : Instr} {op : RotOp} {s : State} (hexec : exec i s = finish i.slot (rotAccStep op s))
    (hm : defaultTaken i = 4) :
    ∃ t, exec i s = .next t ∧ Costs i 4 s t ∧ t.a.toNat = shiftValue op s.a.toNat s.flagC.toNat ∧
      HasFlags t false false false (shiftCarry op s.a.toNat) ∧
      (∀ r, r ≠ .a → t.reg r = s.reg r) ∧ t.sp = s.sp ∧ t.pc = s.pc ∧ SameSystem s t :=
  have hwrites : WritesResult i 4 s .a (rotAccResult op s.a s.flagC) := writesResult_of_exec s.reads hexec hm
  hwrites.of_spec BitVec.toNat (rotAccResult_spec op s.a s.flagC)

/-- A rotate or shift of a register writes that register and its flags (R144). -/
theorem exec_rot_reg_spec (op : RotOp) (r : R8) (s : State) :
    let v := (s.reg r).toNat
    let res := shiftValue op v s.flagC.toNat
    ∃ t, exec (.rot op (.reg r)) s = .next t ∧ Costs (.rot op (.reg r)) 8 s t ∧ (t.reg r).toNat = res ∧
      HasFlags t (decide (res = 0)) false false (shiftCarry op v) ∧
      (∀ q, q ≠ r → t.reg q = s.reg q) ∧ t.sp = s.sp ∧ t.pc = s.pc ∧ SameSystem s t :=
  have hwrites : WritesResult (.rot op (.reg r)) 8 s r (rotResult op (s.reg r) s.flagC) :=
    writesResult_of_exec s.reads (exec_rot op (.reg r) s) (defaultTaken_rot op (.reg r))
  hwrites.of_spec BitVec.toNat (rotResult_spec op (s.reg r) s.flagC)

/-- A rotate or shift at HL is one bus write at HL, with its flags (R144). -/
theorem exec_rot_atHl_spec (op : RotOp) (s : State) :
    let v := (s.busRead s.hl).toNat
    let res := shiftValue op v s.flagC.toNat
    ∃ t, exec (.rot op .atHl) s = .next t ∧ Costs (.rot op .atHl) 16 s t ∧ WroteByte s.hl (BitVec.ofNat 8 res) s t ∧
      HasFlags t (decide (res = 0)) false false (shiftCarry op v) ∧
      SameRegs s t ∧ t.sp = s.sp ∧ t.pc = s.pc ∧ SameRest s t :=
  exec_writeBack_atHl_spec (exec_rot op .atHl s) (defaultTaken_rot op .atHl)
    (rotResult_spec op (s.busRead s.hl) s.flagC)

/-! ## Single bits -/

/-- Reading an 8-bit operand does nothing but count its bus read, if it makes one. -/
theorem State.afterOperand_eq (s : State) (o : Operand8) :
    s.afterOperand o = { s with reads := (s.afterOperand o).reads } :=
  State.afterAluSrc_eq s (.operand o)

/-- BIT writes its flags alone (R169, R170). -/
theorem exec_bitTest_spec (n : Fin 8) (o : Operand8) (s : State) :
    ∃ t, exec (.bitTest n o) s = .next t ∧ Costs (.bitTest n o) (if o = .atHl then 16 else 8) s t ∧
      HasFlags t (!(s.operand o).getLsbD n) false true s.flagC ∧ SameRegs s t ∧ t.sp = s.sp ∧ t.pc = s.pc ∧
      SameSystem s t := by
  refine exec_setFlags_spec (s.afterOperand o).reads ?_ (defaultTaken_bitTest n o)
  rw [exec_bitTest, bitTestStep, ← State.afterOperand_eq]

/-- The byte `w` is `v` with the bit `n` cleared or set (R171 to R174). -/
def HasBitWritten (set : Bool) (n : Fin 8) (v w : Byte) : Prop :=
  ∀ k < 8, w.getLsbD k = if k = n.val then set else v.getLsbD k

theorem hasBitWritten_res (n : Fin 8) (v : Byte) : HasBitWritten false n v (v &&& ~~~bitMask n) :=
  fun _ hk => (bitMask_spec v n hk).1

theorem hasBitWritten_set (n : Fin 8) (v : Byte) : HasBitWritten true n v (v ||| bitMask n) :=
  fun _ hk => (bitMask_spec v n hk).2

/-- An instruction that writes a register back with one bit changed does only that (R171, R173). -/
theorem exec_writeBit_reg_spec {i : Instr} {m : Nat} {set : Bool} {n : Fin 8} {r : R8} {s : State} {w : Byte}
    (hexec : exec i s = finish i.slot (s.setReg r w)) (hm : defaultTaken i = m)
    (hw : HasBitWritten set n (s.reg r) w) :
    ∃ t, exec i s = .next t ∧ Costs i m s t ∧
      HasBitWritten set n (s.reg r) (t.reg r) ∧
      (∀ q, q ≠ r → t.reg q = s.reg q) ∧ t.f = s.f ∧ t.sp = s.sp ∧ t.pc = s.pc ∧ SameSystem s t := by
  obtain ⟨t, ht, hcosts, rfl, hframe⟩ := exec_setReg_spec s.reads hexec hm
  exact ⟨t, ht, hcosts, hw, hframe⟩

/-- An instruction that reads the byte at HL and writes one back does only that write (R172, R174). -/
theorem exec_storeBack_atHl_spec {i : Instr} {m : Nat} {s : State} {w : Byte}
    (hexec : exec i s = finish i.slot ((s.afterOperand .atHl).setOperand .atHl w)) (hm : defaultTaken i = m) :
    ∃ t, exec i s = .next t ∧ Costs i m s t ∧ WroteByte s.hl w s t ∧ SameCpu s t ∧ SameRest s t := by
  have hquiet := quiet_writeBack s .atHl w
  refine ⟨_, hexec, hquiet.costs hm, (State.writeBack_atHl_wrote s w).setCycles _, ⟨fun r => ?_, ?_, ?_, ?_⟩,
    hquiet.sameRest _⟩
  all_goals simp [State.setOperand]

/-- An instruction that writes the byte at HL back with one bit changed does only that (R172, R174). -/
theorem exec_writeBit_atHl_spec {i : Instr} {m : Nat} {set : Bool} {n : Fin 8} {s : State} {w : Byte}
    (hexec : exec i s = finish i.slot ((s.afterOperand .atHl).setOperand .atHl w)) (hm : defaultTaken i = m)
    (hw : HasBitWritten set n (s.busRead s.hl) w) :
    ∃ t v, exec i s = .next t ∧ Costs i m s t ∧ HasBitWritten set n (s.busRead s.hl) v ∧ WroteByte s.hl v s t ∧
      SameCpu s t ∧ SameRest s t := by
  obtain ⟨t, ht, hcosts, hframe⟩ := exec_storeBack_atHl_spec hexec hm
  exact ⟨t, w, ht, hcosts, hw, hframe⟩

end Sys2Proof.Machine
end

section
/-! The statements of spec/44_rotate_bit.md. -/

namespace Sys2Proof.Machine

/-- Settles O33: row by row, a write to A of the rotated value, with Z clear. -/
theorem accumulatorRotates : Obligations.AccumulatorRotates := by
  intro s
  simp only [List.forall_mem_cons]
  refine ⟨⟨rfl, ?rlca⟩, ⟨rfl, ?rrca⟩, ⟨rfl, ?rla⟩, ⟨rfl, ?rra⟩, List.forall_mem_nil _⟩
  case rlca => exact exec_rotAcc_spec (exec_rlca s) rfl
  case rrca => exact exec_rotAcc_spec (exec_rrca s) rfl
  case rla => exact exec_rotAcc_spec (exec_rla s) rfl
  case rra => exact exec_rotAcc_spec (exec_rra s) rfl

/-- Settles O34: a register write, or one bus write at HL, of the rotated value. -/
theorem cbRotates : Obligations.CbRotates := fun op _ r s =>
  ⟨⟨encode_rot op (.reg r), exec_rot_reg_spec op r s⟩, ⟨encode_rot op .atHl, exec_rot_atHl_spec op s⟩⟩

/-- Settles O35: a register write, or one bus write at HL, of the shifted value. -/
theorem cbShifts : Obligations.CbShifts := fun op _ r s =>
  ⟨⟨encode_rot op (.reg r), exec_rot_reg_spec op r s⟩, ⟨encode_rot op .atHl, exec_rot_atHl_spec op s⟩⟩

/-- Settles O36: a write of the flags alone, where Z says that the bit, a digit of the operand's number, is 0. -/
theorem bitTest : Obligations.BitTest := by
  intro n o s
  rw [← getLsbD_eq_div]
  exact ⟨encode_bitTest n o, exec_bitTest_spec n o s⟩

/-- Settles O37: a register write of the byte masked for RES and for SET. -/
theorem resetSetBitOfRegister : Obligations.ResetSetBitOfRegister := by
  intro set n r s
  cases set with
  | false =>
    exact ⟨encode_bitRes n (.reg r), exec_writeBit_reg_spec (exec_bitRes n (.reg r) s)
      (defaultTaken_bitRes n (.reg r)) (hasBitWritten_res n (s.reg r))⟩
  | true =>
    exact ⟨encode_bitSet n (.reg r), exec_writeBit_reg_spec (exec_bitSet n (.reg r) s)
      (defaultTaken_bitSet n (.reg r)) (hasBitWritten_set n (s.reg r))⟩

/-- Settles O38: one bus write at HL of the byte masked for RES and for SET. -/
theorem resetSetBitAtHl : Obligations.ResetSetBitAtHl := by
  intro set n s
  cases set with
  | false =>
    exact ⟨encode_bitRes n .atHl, exec_writeBit_atHl_spec (exec_bitRes n .atHl s)
      (defaultTaken_bitRes n .atHl) (hasBitWritten_res n (s.busRead s.hl))⟩
  | true =>
    exact ⟨encode_bitSet n .atHl, exec_writeBit_atHl_spec (exec_bitSet n .atHl s)
      (defaultTaken_bitSet n .atHl) (hasBitWritten_set n (s.busRead s.hl))⟩

end Sys2Proof.Machine
end

section
/-! What the control transfers share (spec/45_control.md): the encodings of the groups, a jump, a call, a return, and a
conditional instruction whose condition fails. Each lemma takes what `exec` of its instruction is and gives the cycles,
the effect and the frame. -/

namespace Sys2Proof.Machine

/-! ## The encodings of the groups -/

theorem encode_jpCond (cc : Cond) (a : Word) :
    encode (.jpCond cc a) = [0b110#3 ++ cc.code ++ 0b010#3, loByte a, hiByte a] := by
  cases cc <;> rfl

theorem encode_jrCond (cc : Cond) (e : Byte) : encode (.jrCond cc e) = [0b001#3 ++ cc.code ++ 0b000#3, e] := by
  cases cc <;> rfl

theorem encode_callCond (cc : Cond) (a : Word) :
    encode (.callCond cc a) = [0b110#3 ++ cc.code ++ 0b100#3, loByte a, hiByte a] := by
  cases cc <;> rfl

theorem encode_retCond (cc : Cond) : encode (.retCond cc) = [0b110#3 ++ cc.code ++ 0b000#3] := by
  cases cc <;> rfl

theorem encode_rst (y : Fin 8) : encode (.rst y) = [0b11#2 ++ BitVec.ofNat 3 y.val ++ 0b111#3] := by
  fin_cases y <;> rfl

/-! ## The two outcomes of a condition -/

theorem jumpIf_of_holds {cc : Cond} {s : State} (h : condHolds cc s) (a : Word) (k : OpSlot) :
    jumpIf cc a k s = finish k (s.jump a) := if_pos (by rwa [State.cond_eq])

theorem jumpIf_of_fails {cc : Cond} {s : State} (h : ¬ condHolds cc s) (a : Word) (k : OpSlot) :
    jumpIf cc a k s = finishNotTaken k s := if_neg (by rwa [State.cond_eq])

theorem callIf_of_holds {cc : Cond} {s : State} (h : condHolds cc s) (a : Word) (k : OpSlot) :
    callIf cc a k s = finish k (callTo a s) := if_pos (by rwa [State.cond_eq])

theorem callIf_of_fails {cc : Cond} {s : State} (h : ¬ condHolds cc s) (a : Word) (k : OpSlot) :
    callIf cc a k s = finishNotTaken k s := if_neg (by rwa [State.cond_eq])

theorem returnIf_of_holds {cc : Cond} {s : State} (h : condHolds cc s) (k : OpSlot) :
    returnIf cc k s = finish k (returnStep s) := if_pos (by rwa [State.cond_eq])

theorem returnIf_of_fails {cc : Cond} {s : State} (h : ¬ condHolds cc s) (k : OpSlot) :
    returnIf cc k s = finishNotTaken k s := if_neg (by rwa [State.cond_eq])

/-- An instruction that finishes not taken does nothing, at the slot's lower count (R176, R181, R184). -/
theorem exec_notTaken_spec {i : Instr} {n : Nat} {s : State} (hexec : exec i s = finishNotTaken i.slot s)
    (hn : defaultNotTaken i = n) :
    ∃ t, exec i s = .next t ∧ CostsNotTaken i n s t ∧ SameCpu s t ∧ SameSystem s t :=
  ⟨_, hexec, .of_finish hn, ⟨State.setCycles_reg s _, rfl, rfl, rfl⟩, (Quiet.refl s).sameSystem _ rfl rfl rfl rfl⟩

/-! ## Jumps -/

/-- An instruction that jumps does only that (R175); `value` is the number the target is read as. -/
theorem exec_jump_spec {i : Instr} {n : Nat} {s : State} {target : Word} {α : Type} {x : α} (value : Word → α)
    (hexec : exec i s = finish i.slot (s.jump target)) (hn : defaultTaken i = n) (htarget : value target = x) :
    ∃ t, exec i s = .next t ∧ Costs i n s t ∧ value t.pc = x ∧ SameRegs s t ∧ t.f = s.f ∧ t.sp = s.sp ∧
      SameSystem s t := by
  have hquiet := quiet_jump s target
  exact ⟨_, hexec, hquiet.costs hn, htarget, .of_eq rfl rfl rfl rfl rfl rfl rfl, rfl, rfl,
    hquiet.sameSystem _ rfl rfl rfl rfl⟩

/-- A conditional jump is the jump where the condition holds, and does nothing where it fails (R176, R179). -/
theorem exec_jumpIf_spec {i : Instr} {n m : Nat} {s : State} {cc : Cond} {target : Word} {α : Type} {x : α}
    (value : Word → α) (hexec : exec i s = jumpIf cc target i.slot s) (hn : defaultTaken i = n)
    (hm : defaultNotTaken i = m) (htarget : value target = x) :
    ∃ t, exec i s = .next t ∧
      (if condHolds cc s then value t.pc = x ∧ Costs i n s t else t.pc = s.pc ∧ CostsNotTaken i m s t) ∧
      SameRegs s t ∧ t.f = s.f ∧ t.sp = s.sp ∧ SameSystem s t := by
  by_cases hcc : condHolds cc s
  · obtain ⟨t, ht, hcosts, hpc, hframe⟩ :=
      exec_jump_spec value (hexec.trans (jumpIf_of_holds hcc target i.slot)) hn htarget
    exact ⟨t, ht, (if_pos hcc).mpr ⟨hpc, hcosts⟩, hframe⟩
  · obtain ⟨t, ht, hcosts, hcpu, hsystem⟩ :=
      exec_notTaken_spec (hexec.trans (jumpIf_of_fails hcc target i.slot)) hm
    exact ⟨t, ht, (if_neg hcc).mpr ⟨hcpu.pc, hcosts⟩, hcpu.regs, hcpu.f, hcpu.sp, hsystem⟩

/-! ## Calls -/

/-- `WroteByte` does not look at PC. -/
theorem WroteByte.jump {addr : Word} {v : Byte} {s t : State} (h : WroteByte addr v s t) (target : Word) :
    WroteByte addr v s (t.jump target) :=
  h.congr rfl rfl rfl rfl rfl rfl rfl rfl rfl rfl rfl rfl

/-- An instruction that calls pushes PC and jumps, and does only that (R180); `value` is the number the target is read
as. -/
theorem exec_call_spec {i : Instr} {n : Nat} {s : State} {target : Word} {α : Type} {x : α} (value : Word → α)
    (hexec : exec i s = finish i.slot (callTo target s)) (hn : defaultTaken i = n) (htarget : value target = x) :
    ∃ m t, exec i s = .next t ∧ Costs i n s t ∧ value t.pc = x ∧ t.sp = s.sp - 2 ∧
      WroteByte (s.sp - 1) (hiByte s.pc) s m ∧ WroteByte (s.sp - 2) (loByte s.pc) m t ∧
      SameRegs s t ∧ t.f = s.f ∧ SameRest s t := by
  have hquiet := quiet_callTo target s
  have hlow := WroteByte.jump (State.push16_wrote_low s s.pc) target
  refine ⟨_, _, hexec, hquiet.costs hn, htarget, ?sp, State.push16_wrote_high s s.pc, hlow.setCycles _,
    fun r => ?regs, ?f, hquiet.sameRest _⟩
  all_goals simp [callTo]

/-- The target of RST is 8 times its number (R182). -/
theorem rst_target_toNat (y : Fin 8) : (BitVec.ofNat 16 (8 * y.val)).toNat = y.val * 8 := by
  have hy := y.isLt
  rw [BitVec.toNat_ofNat, Nat.mod_eq_of_lt (by omega), Nat.mul_comm]

/-! ## Returns -/

/-- A return stores nothing. -/
theorem sameSystem_returnStep (s : State) (n : Nat) : SameSystem s ((returnStep s).setCycles n) := by
  refine (quiet_returnStep s).sameSystem n ?mem ?ifReg ?ie ?events
  all_goals simp [returnStep]

@[simp] theorem State.returnFromInterrupt_reg (s : State) (r : R8) : s.returnFromInterrupt.reg r = s.reg r := by
  cases r <;> rfl

@[simp] theorem returnStep_pc (s : State) : (returnStep s).pc = s.popValue := rfl

/-- The popped word: the low byte at SP, then the high byte at SP + 1 (R87). -/
theorem State.popValue_toNat (s : State) :
    s.popValue.toNat = (s.countRead.busRead (s.sp + 1)).toNat * 256 + (s.busRead s.sp).toNat :=
  wordOf_toNat _ _

/-- An instruction that returns pops PC, and does only that (R183). -/
theorem exec_return_spec {i : Instr} {n : Nat} {s : State} (hexec : exec i s = finish i.slot (returnStep s))
    (hn : defaultTaken i = n) :
    ∃ t, exec i s = .next t ∧ Costs i n s t ∧
      t.pc.toNat = (s.countRead.busRead (s.sp + 1)).toNat * 256 + (s.busRead s.sp).toNat ∧ t.sp = s.sp + 2 ∧
      SameRegs s t ∧ t.f = s.f ∧ SameSystem s t := by
  refine ⟨_, hexec, (quiet_returnStep s).costs hn, ?pc, ?sp, fun r => ?regs, ?f, sameSystem_returnStep s _⟩
  case pc => rw [State.setCycles_pc, returnStep_pc, State.popValue_toNat]
  all_goals simp [returnStep]

end Sys2Proof.Machine
end

section
/-! The statements of spec/45_control.md. -/

namespace Sys2Proof.Machine

/-- Settles O40: a jump where the condition holds, to the immediate and to PC plus the signed offset. -/
theorem conditionalJumps : Obligations.ConditionalJumps := fun cc a e s =>
  ⟨⟨encode_jpCond cc a,
    exec_jumpIf_spec id (exec_jpCond cc a s) (defaultTaken_jpCond cc a) (defaultNotTaken_jpCond cc a) rfl⟩,
  ⟨encode_jrCond cc e,
    exec_jumpIf_spec (fun w => (w.toNat : Int)) (exec_jrCond cc e s) (defaultTaken_jrCond cc e)
      (defaultNotTaken_jrCond cc e) (add_sext16 s.pc e)⟩⟩

/-- Settles O41: a call of the immediate, and of the word 8 times the number of the RST. -/
theorem callsAndRestarts : Obligations.CallsAndRestarts :=
  ⟨fun a s => ⟨rfl, exec_call_spec id (exec_callA16 a s) (defaultTaken_callA16 a) rfl⟩,
    fun y s => ⟨encode_rst y, exec_call_spec BitVec.toNat (exec_rst y s) (defaultTaken_rst y) (rst_target_toNat y)⟩⟩

/-- Settles O42: a call where the condition holds, nothing where it fails. -/
theorem conditionalCalls : Obligations.ConditionalCalls := by
  intro cc a s
  refine ⟨encode_callCond cc a, ?_⟩
  by_cases hcc : condHolds cc s
  · obtain ⟨m, t, ht, hcosts, hpc, hsp, hhigh, hlow, hregs, hf, hrest⟩ :=
      exec_call_spec id ((exec_callCond cc a s).trans (callIf_of_holds hcc a _)) (defaultTaken_callCond cc a) rfl
    exact ⟨t, ht, hregs, hf, hrest, (if_pos hcc).mpr ⟨hpc, hcosts, hsp, m, hhigh, hlow⟩⟩
  · obtain ⟨t, ht, hcosts, hcpu, hsystem⟩ :=
      exec_notTaken_spec ((exec_callCond cc a s).trans (callIf_of_fails hcc a _)) (defaultNotTaken_callCond cc a)
    exact ⟨t, ht, hcpu.regs, hcpu.f, hsystem.rest, (if_neg hcc).mpr ⟨hcpu.pc, hcosts, hcpu.sp, hsystem⟩⟩

/-- Settles O43: RET is a return; RETI is the same return with IME set. -/
theorem returnsPopPc : Obligations.ReturnsPopPc := by
  intro s lo hi
  refine ⟨⟨rfl, ?ret⟩, ⟨rfl, ?reti⟩⟩
  case ret => exact exec_return_spec (exec_ret s) rfl
  case reti =>
    refine ⟨_, exec_reti s, .of_finish rfl rfl, ?pc, ?sp, ?ime, fun r => ?regs, ?f, sameSystem_returnStep s _⟩
    case pc => rw [State.setCycles_pc, State.returnFromInterrupt_pc, State.popValue_toNat]
    all_goals simp

/-- Settles O44: a return where the condition holds, nothing where it fails. -/
theorem conditionalReturns : Obligations.ConditionalReturns := by
  intro cc s lo hi
  refine ⟨encode_retCond cc, ?_⟩
  by_cases hcc : condHolds cc s
  · obtain ⟨t, ht, hcosts, hpc, hsp, hregs, hf, hsystem⟩ :=
      exec_return_spec ((exec_retCond cc s).trans (returnIf_of_holds hcc _)) (defaultTaken_retCond cc)
    exact ⟨t, ht, hregs, hf, hsystem, (if_pos hcc).mpr ⟨hpc, hsp, hcosts⟩⟩
  · obtain ⟨t, ht, hcosts, hcpu, hsystem⟩ :=
      exec_notTaken_spec ((exec_retCond cc s).trans (returnIf_of_fails hcc _)) (defaultNotTaken_retCond cc)
    exact ⟨t, ht, hcpu.regs, hcpu.f, hsystem, (if_neg hcc).mpr ⟨hcpu.pc, hcpu.sp, hcosts⟩⟩

/-- Settles O39: a jump to the immediate, to HL and to PC plus the signed offset. -/
theorem unconditionalJumps : Obligations.UnconditionalJumps := by
  intro a e s
  refine ⟨⟨rfl, ?jpA16⟩, ⟨rfl, ?jpHl⟩, ⟨rfl, ?jrE8⟩⟩
  case jpA16 => exact exec_jump_spec id (exec_jpA16 a s) (defaultTaken_jpA16 a) rfl
  case jpHl => exact exec_jump_spec id (exec_jpHl s) rfl rfl
  case jrE8 =>
    exact exec_jump_spec (fun w => (w.toNat : Int)) (exec_jrE8 e s) (defaultTaken_jrE8 e) (add_sext16 s.pc e)

end Sys2Proof.Machine
end

section
/-! What the statements of spec/46_system.md and 60_exceptions.md share: PREFIX CB and the secondary map, when a core
stays asleep and when a woken one takes an interrupt, `EiTick()`, and the recorded fault. -/

namespace Sys2Proof.Machine

/-! ## The secondary rows by their fields -/

/-- The secondary instruction that the fields x, y, z of a byte name (R61): the instruction whose rule `runSecondary`
runs. -/
def secondaryOfFields (op2 : Byte) : Instr :=
  let o := operandOfCode (op2.extractLsb' 0 3)
  let y := op2.extractLsb' 3 3
  match (op2.extractLsb' 6 2).toNat with
  | 0 => .rot (rotOfCode y) o
  | 1 => .bitTest y.toFin o
  | 2 => .bitRes y.toFin o
  | _ => .bitSet y.toFin o

/-- The secondary map is laid out by those fields (R61), compared entry by entry. -/
theorem secondaryInstr_eq_secondaryOfFields (op2 : Byte) : secondaryInstr op2 = secondaryOfFields op2 := by
  obtain ⟨v, hv, rfl⟩ : ∃ v < 256, op2 = BitVec.ofNat 8 v := ⟨op2.toNat, op2.isLt, by simp⟩
  interval_cases v <;> rfl

/-- The slot of a secondary row is its opcode's own (R54). -/
theorem slot_secondaryInstr (op2 : Byte) : (secondaryInstr op2).slot = .secondary op2 := by
  rw [Instr.slot, encode_secondaryInstr]
  rfl

/-- A secondary row runs the CB rule of its opcode (R193). -/
theorem exec_secondaryInstr (op2 : Byte) (s : State) : exec (secondaryInstr op2) s = runSecondary op2 s := by
  have hslot := slot_secondaryInstr op2
  rw [secondaryInstr_eq_secondaryOfFields] at hslot ⊢
  unfold secondaryOfFields at hslot ⊢
  unfold runSecondary
  dsimp only at hslot ⊢
  generalize (op2.extractLsb' 6 2).toNat = x at hslot ⊢
  match x with
  | 0 => exact (exec_rot _ _ s).trans (congrArg (finish · _) hslot)
  | 1 => exact (exec_bitTest _ _ s).trans (congrArg (finish · _) hslot)
  | 2 => exact (exec_bitRes _ _ s).trans (congrArg (finish · _) hslot)
  | _ + 3 => exact (exec_bitSet _ _ s).trans (congrArg (finish · _) hslot)

/-- The CB rules finish in a quiet state, with the cycles of the secondary opcode's own entry (R193). -/
theorem runSecondary_finishes (op2 : Byte) (s : State) :
    ∃ u, Quiet s u ∧ runSecondary op2 s = finish (.secondary op2) u := by
  unfold runSecondary
  dsimp only
  split
  · exact ⟨_, quiet_rotStep _ _ s, rfl⟩
  · exact ⟨_, quiet_bitTestStep _ _ s, rfl⟩
  · exact ⟨_, quiet_bitResStep _ _ s, rfl⟩
  · exact ⟨_, quiet_bitSetStep _ _ s, rfl⟩

/-- No secondary row is an illegal one: it has two bytes. -/
theorem secondaryInstr_ne_illegal (op2 : Byte) (k : IllegalSlot) : secondaryInstr op2 ≠ .illegal k := by
  intro h
  have hbytes := encode_secondaryInstr op2
  simp [h, encode_illegal] at hbytes

/-! ## Asleep, and the interrupt of a woken core -/

/-- A halted core stays so while no enabled request is pending, a stopped one while `stop_wake` is off too (R210). -/
theorem State.staysIdle_iff (wake : Bool) (s : State) :
    s.staysIdle wake = true ↔
      (s.power = .halted ∧ s.pending = 0) ∨ (s.power = .stopped ∧ s.pending = 0 ∧ wake = false) := by
  cases h : s.power <;> simp [State.staysIdle, h]

/-- Some source is chosen as soon as a request is pending (R199). -/
theorem highestPriority_eq_none_iff (p : BitVec 5) : highestPriority p = none ↔ p = 0 := by
  revert p
  decide

/-- No interrupt is taken exactly while IME is 0 or no enabled request is pending (R199). -/
theorem State.interruptTaken_eq_none_iff (s : State) :
    s.interruptTaken = none ↔ s.ime = false ∨ s.pending = 0 := by
  cases h : s.ime <;> simp [State.interruptTaken, h, highestPriority_eq_none_iff]

/-! ## The end of an instruction -/

theorem State.endInstruction_of_running {s : State} (h : s.faultRec = none) : s.endInstruction = s.eiTick := by
  rw [State.endInstruction, h]

theorem State.endInstruction_of_faulted {s : State} (h : s.faultRec ≠ none) : s.endInstruction = s := by
  obtain ⟨r, hr⟩ := Option.ne_none_iff_exists'.1 h
  rw [State.endInstruction, hr]

theorem State.eiTick_of_zero {s : State} (h : s.eiDelay = 0) : s.eiTick = s := by
  simp [State.eiTick, h]

theorem State.eiTick_of_one {s : State} (h : s.eiDelay = 1) : s.eiTick = { s with eiDelay := 0, ime := true } := by
  simp [State.eiTick, h]

theorem State.eiTick_of_two {s : State} (h : s.eiDelay = 2) : s.eiTick = { s with eiDelay := 1 } := by
  simp [State.eiTick, h]

/-! ## The PPU's part and the result, with and without a fault -/

theorem State.ppuPart_of_running {s : State} (h : s.faultRec = none) : s.ppuPart = s.ppuStep s.cycles := by
  rw [State.ppuPart, h]

theorem State.ppuPart_of_faulted {s : State} (h : s.faultRec ≠ none) : s.ppuPart = s := by
  obtain ⟨r, hr⟩ := Option.ne_none_iff_exists'.1 h
  rw [State.ppuPart, hr]

theorem State.result_of_faulted {s : State} {r : FaultRec} (h : s.faultRec = some r) : s.result = .fault r := by
  rw [State.result, h]

/-- The CPU step of a faulted core returns the fault and nothing else (R197). -/
theorem cpuStep_faulted (wake : Bool) {s : State} {r : FaultRec} (h : s.faultRec = some r) :
    cpuStep wake s = .fault (.faulted r) := by
  rw [cpuStep, h]

/-! ## Fetching an illegal slot -/

/-- The first byte of the instruction at PC is what a bus read at PC gives (R19). -/
theorem State.fetchByte_zero (s : State) : s.fetchByte 0 = s.busRead s.pc := by
  simp [State.fetchByte]

/-- The opcode of an illegal slot at PC is all of the instruction there (R63). -/
theorem State.instrAt_of_illegal {s : State} {k : IllegalSlot} (h : s.busRead s.pc = k.opcode) :
    s.instrAt = .illegal k :=
  (decodeBytes_eq_illegal_iff _ _ _ k).2 (by rw [State.fetchByte_zero, h])

theorem slot_illegal_bytes (k : IllegalSlot) : (Instr.illegal k).slot.bytes = [k.opcode] := by
  cases k <;> rfl

/-- The state after the fetch of an illegal slot (R194): one byte read at `s.pc`, the fault of that byte recorded, PC
back at it. -/
def State.faultedAt (k : IllegalSlot) (s : State) : State :=
  { s with
    faultRec := some { kind := .unknownOpcode, opcode := k.opcode, pc := s.pc }
    reads := s.reads + 1
    opcode := [k.opcode] }

/-- An illegal slot, once fetched, records the fault at the address it was fetched from (R194). -/
theorem runInstruction_illegal {s : State} {k : IllegalSlot} (h : s.busRead s.pc = k.opcode) :
    runInstruction s = .next (s.faultedAt k) := by
  have hpc : s.pc + BitVec.ofNat 16 1 - 1 = s.pc := by simp
  have hexec : exec s.instrAt s.afterFetch = .next (s.faultedAt k) := by
    rw [State.afterFetch_eq, State.instrAt_of_illegal h, exec_illegal, encode_illegal, slot_illegal_bytes]
    simp only [raiseUnknownOpcode, List.length_singleton, hpc, State.faultedAt]
  rw [runInstruction, hexec, mapNext, State.endInstruction_of_faulted (by simp [State.faultedAt])]

end Sys2Proof.Machine
end

section
/-! The statements of spec/46_system.md: PREFIX CB, the power states, DI and EI, and the illegal slots. -/

namespace Sys2Proof.Machine

/-- Settles O9: the escape and the secondary row both run the CB rule, which finishes quietly. -/
theorem prefixCbRunsSecondary : Obligations.PrefixCbRunsSecondary := by
  refine ⟨fun op2 rest s => ?_, decode_escape 0xCB []⟩
  obtain ⟨u, hquiet, hrun⟩ := runSecondary_finishes op2 s
  refine ⟨secondaryInstr op2, rfl, decode_escape op2 rest, wellFormed_secondaryInstr op2,
    secondaryInstr_ne_illegal op2, _, (exec_prefixCb op2 s).trans hrun, (exec_secondaryInstr op2 s).trans hrun,
    ?faultRec, ?cycles, secondary_default op2⟩
  case faultRec => exact hquiet.control.faultRec
  case cycles => rw [State.setCycles_cycles, hquiet.frame.timing]

/-- Settles O45: the cases of the CPU step, with "asleep" and "takes no interrupt" in terms of the pending requests. -/
theorem nopHaltStopAndWake : Obligations.NopHaltStopAndWake := by
  refine ⟨fun s => ⟨rfl, _, exec_nop s, .of_finish rfl rfl, rfl⟩,
    fun s => ⟨rfl, _, exec_halt s, .of_finish rfl rfl, rfl⟩,
    fun pad s => ⟨rfl, _, exec_stop pad s, .of_finish rfl (defaultTaken_stop pad), rfl⟩,
    fun wake s hfault => ?wake, fun s hfault hidle => ?idle, rfl⟩
  case wake =>
    have hstays := s.staysIdle_iff wake
    refine ⟨fun hasleep => ?asleep, fun hawake hime hpending => ?dispatch, fun hawake hnone => ?fetch⟩
    case asleep => exact cpuStep_idle hfault (hstays.2 hasleep)
    case dispatch =>
      have htaken : s.interruptTaken ≠ none := by
        rw [Ne, s.interruptTaken_eq_none_iff]
        exact not_or.2 ⟨by simp [hime], hpending⟩
      obtain ⟨i, hi⟩ := Option.ne_none_iff_exists'.1 htaken
      exact ⟨i, cpuStep_dispatch hfault (Bool.eq_false_iff.2 (mt hstays.1 hawake)) hi⟩
    case fetch =>
      exact cpuStep_run hfault (Bool.eq_false_iff.2 (mt hstays.1 hawake)) (s.interruptTaken_eq_none_iff.2 hnone)
  case idle =>
    have hlatched : s.latchInput.faultRec = none := hfault
    rw [step_of_cpuStep (cpuStep_idle hlatched hidle), State.ppuPart_of_running (s := s.latchInput.idle) hlatched]
    rfl

/-- Settles O46: `EiTick()` by the value of EiDelay; of the CPU step's cases only the one that runs an instruction ends
with it. -/
theorem disableEnableInterrupts : Obligations.DisableEnableInterrupts := by
  refine ⟨fun s => ⟨rfl, _, exec_di s, .of_finish rfl rfl, rfl⟩,
    fun s => ⟨rfl, _, exec_ei s, .of_finish rfl rfl, rfl⟩,
    fun s hfault => ?tick, fun s => State.endInstruction_of_faulted, fun wake s hfault => ?cpu⟩
  case tick =>
    rw [State.endInstruction_of_running hfault]
    exact ⟨State.eiTick_of_zero, State.eiTick_of_one, State.eiTick_of_two⟩
  case cpu =>
    refine ⟨fun hidle => ?idle, fun hawake i hi => ?dispatch, cpuStep_run hfault⟩
    case idle => exact ⟨_, cpuStep_idle hfault hidle, rfl, rfl⟩
    case dispatch => exact ⟨_, cpuStep_dispatch hfault hawake hi, rfl, rfl⟩

/-- Settles O47: the fetch of an illegal slot ends in `State.faultedAt`, which the PPU's part leaves; from then on the
core is faulted, and a step only latches its inputs. -/
theorem illegalOpcodeRaisesFault : Obligations.IllegalOpcodeRaisesFault := by
  refine ⟨fun k s => ⟨encode_illegal k, exec_illegal k s⟩, fun s k hfetches hbyte => ?raises, fun s r hr => ?sticky⟩
  case raises =>
    have hstep : step s = .next (s.latchInput.faultedAt k) := by
      rw [step_of_fetches hfetches, runInstruction_illegal hbyte, mapNext,
        State.ppuPart_of_faulted (by simp [State.faultedAt])]
    exact ⟨_, hstep, rfl, rfl, step_faulted rfl, rfl⟩
  case sticky =>
    exact ⟨fun wake => cpuStep_faulted wake hr, step_faulted hr, State.result_of_faulted hr⟩

end Sys2Proof.Machine
end

section
/-! The loop of `PpuStep` (spec/60_exceptions.md R213), one turn at a time, and what `RenderLine` writes (R216). -/

namespace Sys2Proof.Machine

/-! ## The loop of the PPU step -/

/-- `Counter <- Counter + n`, with which `PpuStep(n)` begins (R213). -/
def State.addCycles (n : Nat) (s : State) : State := { s with counter := s.counter + n }

@[simp] theorem State.addCycles_counter (n : Nat) (s : State) : (s.addCycles n).counter = s.counter + n := rfl

@[simp] theorem State.addCycles_mode (n : Nat) (s : State) : (s.addCycles n).mode = s.mode := rfl

theorem State.addCycles_addCycles (n k : Nat) (s : State) : (s.addCycles n).addCycles k = s.addCycles (n + k) := by
  simp only [State.addCycles, Nat.add_assoc]

/-- One turn of the loop: the step ends below the budget; otherwise the mode's transition, and the loop again with no
more cycles to add (R213). -/
theorem State.ppuStep_eq (s : State) (n : Nat) :
    s.ppuStep n =
      if s.counter + n < s.mode.budget then s.addCycles n else (s.addCycles n).ppuAdvance.ppuStep 0 := by
  rw [State.ppuStep_eq_run s (Nat.le_succ _), ppuRun]
  split
  · rfl
  · exact (State.ppuStep_eq_run (s.addCycles n).ppuAdvance (n := 0) (f := s.counter + n) (by simp)).symm

theorem State.ppuStep_of_lt {s : State} {n : Nat} (h : s.counter + n < s.mode.budget) :
    s.ppuStep n = s.addCycles n := by
  rw [State.ppuStep_eq, if_pos h]

theorem State.ppuStep_of_le {s : State} {n : Nat} (h : s.mode.budget ≤ s.counter + n) :
    s.ppuStep n = (s.addCycles n).ppuAdvance.ppuStep 0 := by
  rw [State.ppuStep_eq, if_neg (Nat.not_lt.2 h)]

/-- Below the budget the loop with no cycles to add does nothing. -/
theorem State.ppuStep_zero {s : State} (h : s.counter < s.mode.budget) : s.ppuStep 0 = s :=
  State.ppuStep_of_lt h

theorem State.ppuStep_counter_lt (s : State) (n : Nat) : (s.ppuStep n).counter < (s.ppuStep n).mode.budget :=
  ppuRun_counter_lt (Nat.le_refl _)

/-- Cycles already in the counter and cycles to add count alike. -/
theorem State.ppuStep_addCycles (s : State) (n k : Nat) : (s.addCycles n).ppuStep k = s.ppuStep (n + k) := by
  simp only [State.ppuStep, State.addCycles, Nat.add_assoc]

/-- A transition that is due stays the same when cycles are added before it. -/
theorem State.ppuAdvance_addCycles {s : State} (h : s.mode.budget ≤ s.counter) (k : Nat) :
    (s.addCycles k).ppuAdvance = s.ppuAdvance.addCycles k := by
  rw [State.addCycles, State.ppuAdvance_withCounter, State.addCycles, State.ppuAdvance_counter,
    Nat.sub_add_comm h]

/-- Two PPU steps are one step with the sum of their cycles: the transitions of the first are the first ones of the
whole. -/
theorem State.ppuStep_ppuStep (s : State) (n k : Nat) : (s.ppuStep n).ppuStep k = s.ppuStep (n + k) := by
  induction hc : s.counter + n using Nat.strong_induction_on generalizing s n with
  | _ c ih =>
    by_cases hlt : s.counter + n < s.mode.budget
    · rw [State.ppuStep_of_lt hlt, State.ppuStep_addCycles]
    · have hpos := s.mode.budget_pos
      have hdue : s.mode.budget ≤ s.counter + n := Nat.not_lt.1 hlt
      have hless : (s.addCycles n).ppuAdvance.counter < c := by simp; omega
      calc (s.ppuStep n).ppuStep k
        _ = ((s.addCycles n).ppuAdvance.ppuStep 0).ppuStep k := by rw [State.ppuStep_of_le hdue]
        _ = ((s.addCycles n).ppuAdvance.addCycles k).ppuStep 0 := by
          rw [ih _ hless _ 0 rfl, State.ppuStep_addCycles, Nat.add_comm]
        _ = (s.addCycles (n + k)).ppuAdvance.ppuStep 0 := by
          rw [← State.ppuAdvance_addCycles hdue, State.addCycles_addCycles]
        _ = s.ppuStep (n + k) := (State.ppuStep_of_le (by omega)).symm

/-- The PPU writes its own state and IF only (R33, R215). -/
theorem State.ppuStep_eq_with (s : State) (n : Nat) :
    s.ppuStep n = { s with
      mode := (s.ppuStep n).mode, line := (s.ppuStep n).line, counter := (s.ppuStep n).counter
      ifReg := (s.ppuStep n).ifReg, fb := (s.ppuStep n).fb } := by
  obtain ⟨_, _, _, _, _, h⟩ := s.ppuStep_frame n
  rw [h]

/-! ## The renderer -/

theorem State.scanline_getElem (s : State) (ly : Nat) (x : Fin 160) : (s.scanline ly)[x] = s.pixel ly x := by
  simp [State.scanline]

/-- The renderer reads nothing but the backing array (R36, R216). -/
theorem State.scanline_congr {s t : State} (h : t.mem = s.mem) (ly : Nat) : t.scanline ly = s.scanline ly := by
  have hpixel : t.pixel ly = s.pixel ly := by
    funext x
    rw [State.pixel, State.pixel, State.lcdc, State.lcdc, h]
  simp only [State.scanline, hpixel]

/-- `RenderLine(ly)` writes row `ly` and keeps every other row (R216). -/
theorem State.renderLine_row (s : State) (ly : Nat) (y : Fin 144) :
    (s.renderLine ly).fb[y] = if ly = y.val then s.scanline ly else s.fb[y] :=
  Vector.getElem_setIfInBounds y.isLt

/-! ## What a transition does to IF and to the framebuffer -/

/-- A transition requests the VBlank interrupt where the last visible line ends, and writes nothing else of IF
(R213, R215). -/
theorem State.ppuAdvance_ifReg (s : State) :
    s.ppuAdvance.ifReg = if s.mode = .hblank ∧ s.line + 1 = 144 then s.ifReg ||| 0x01 else s.ifReg := by
  rcases s.mode.cases with hmode | hmode | hmode | hmode
  · simp [State.ppuAdvance_oam hmode, hmode]
  · simp [State.ppuAdvance_xfer hmode, hmode]
  · rw [State.ppuAdvance_hblank hmode]
    split <;> simp [*]
  · rw [State.ppuAdvance_vblank hmode]
    split <;> simp [hmode]

/-- A transition renders the line that the PPU is on, where XFER ends and LCDC[7] = 1, and writes nothing else of the
framebuffer (R213, R216). -/
theorem State.ppuAdvance_row (s : State) (y : Fin 144) :
    s.ppuAdvance.fb[y] =
      if (s.mem.get 0xFF40).getLsbD 7 = true ∧ s.mode = .xfer ∧ s.line = y.val then s.scanline y.val else s.fb[y] := by
  rcases s.mode.cases with hmode | hmode | hmode | hmode
  · simp [State.ppuAdvance_oam hmode, hmode]
  · rw [State.ppuAdvance_xfer hmode]
    by_cases hon : (s.mem.get 0xFF40).getLsbD 7 = true
    · simp only [hon, hmode, if_true, true_and, State.renderLine_row]
      split <;> simp [*]
    · simp only [hon, Bool.false_eq_true, if_false, false_and]
  · rw [State.ppuAdvance_hblank hmode]
    split <;> simp [hmode]
  · rw [State.ppuAdvance_vblank hmode]
    split <;> simp [hmode]

end Sys2Proof.Machine
end

section
/-! The statements of spec/60_exceptions.md about the loop of `PpuStep` (R213). -/

namespace Sys2Proof.Machine

/-- Settles O52: one turn of the loop, with the transition of each mode. -/
theorem ppuStepIsTheLoop : Obligations.PpuStepIsTheLoop := by
  intro n s
  have hturn := s.ppuStep_eq n
  refine ⟨fun h => ?oam, fun h => ?xfer, fun h => ?hblank, fun h => ?vblank, s.ppuStep_counter_lt n⟩
  case oam => rwa [State.ppuAdvance_oam (s := s.addCycles n) h, h] at hturn
  case xfer => rwa [State.ppuAdvance_xfer (s := s.addCycles n) h, h] at hturn
  case hblank => rwa [State.ppuAdvance_hblank (s := s.addCycles n) h, apply_ite (State.ppuStep 0), h] at hturn
  case vblank => rwa [State.ppuAdvance_vblank (s := s.addCycles n) h, apply_ite (State.ppuStep 0), h] at hturn

/-- Settles O53: the two-step law along the list. -/
theorem ppuStepsAddUp : Obligations.PpuStepsAddUp := by
  intro ns s n
  induction ns generalizing n with
  | nil => rfl
  | cons k ns ih => rw [List.foldl_cons, State.ppuStep_ppuStep, ih, List.sum_cons, Nat.add_assoc]

end Sys2Proof.Machine
end

section
/-! The statement of spec/60_exceptions.md about the frame (R218): what the PPU has done once the modes it has been
through have used up some of the frame's cycles. -/

namespace Sys2Proof.Machine

/-! ## The place in the frame -/

/-- The cycles that the modes before this one use up in a line (R212). -/
def Mode.elapsed : Mode → Nat
  | .oam => 0
  | .xfer => 80
  | .hblank => 252
  | .vblank => 0

/-- The cycles that the lines and modes before this one use up in a frame (R212, R218). -/
def State.elapsed (s : State) : Nat := 456 * s.line + s.mode.elapsed

/-- The PPU of `t` is in the frame that began in `s`, and the modes it has been through used up `e` cycles. -/
structure InFrame (s : State) (e : Nat) (t : State) : Prop where
  legal : t.LegalLine
  elapsed : t.elapsed = e % 70224
  ifReg : t.ifReg = if 65664 ≤ e then s.ifReg ||| 0x01 else s.ifReg
  rows : ∀ y : Fin 144, t.fb[y] =
    if (s.mem.get 0xFF40).getLsbD 7 = true ∧ 456 * y.val + 252 ≤ e then s.scanline y.val else s.fb[y]
  mem : t.mem = s.mem

theorem InFrame.start {s : State} (hmode : s.mode = .oam) (hline : s.line = 0) (n : Nat) :
    InFrame s 0 (s.addCycles n) where
  legal := by simp [State.LegalLine, State.addCycles, hmode, hline]
  elapsed := by simp [State.elapsed, State.addCycles, hmode, hline, Mode.elapsed]
  ifReg := rfl
  rows := by simp [State.addCycles]
  mem := rfl

/-- The four kinds of place in a frame: the lines they are in, what was used up before them, and their budget (R212). -/
theorem State.LegalLine.place {s : State} (h : s.LegalLine) :
    (s.mode = .oam ∧ s.line ≤ 143 ∧ s.elapsed = 456 * s.line ∧ s.mode.budget = 80) ∨
    (s.mode = .xfer ∧ s.line ≤ 143 ∧ s.elapsed = 456 * s.line + 80 ∧ s.mode.budget = 172) ∨
    (s.mode = .hblank ∧ s.line ≤ 143 ∧ s.elapsed = 456 * s.line + 252 ∧ s.mode.budget = 204) ∨
    (s.mode = .vblank ∧ 144 ≤ s.line ∧ s.line ≤ 153 ∧ s.elapsed = 456 * s.line ∧ s.mode.budget = 456) := by
  obtain ⟨hle, hiff⟩ := h
  rcases s.mode.cases with hmode | hmode | hmode | hmode <;>
    simp [hmode, State.elapsed, Mode.elapsed, Mode.budget] at hiff ⊢ <;> omega

/-- A transition uses its mode's budget up: where a line ends the next one begins, after the last one line 0 (R218). -/
theorem State.LegalLine.elapsed_ppuAdvance {s : State} (h : s.LegalLine) :
    s.ppuAdvance.elapsed = (s.elapsed + s.mode.budget) % 70224 := by
  rcases h.place with ⟨hmode, hle, he, hb⟩ | ⟨hmode, hle, he, hb⟩ | ⟨hmode, hle, he, hb⟩ | ⟨hmode, -, hle, he, hb⟩ <;>
    rw [he, hb]
  · simp [State.ppuAdvance_oam hmode, State.elapsed, Mode.elapsed]
    omega
  · simp [State.ppuAdvance_xfer hmode, State.elapsed, Mode.elapsed]
    omega
  · rw [State.ppuAdvance_hblank hmode]
    split <;> simp [State.elapsed, Mode.elapsed] <;> omega
  · rw [State.ppuAdvance_vblank hmode]
    split <;> simp [State.elapsed, Mode.elapsed, hmode] <;> omega

/-- Up to the frame's end a transition leads on in the frame, and its mode's budget is used up. -/
theorem InFrame.ppuAdvance {s t : State} {e : Nat} (h : InFrame s e t) (he : e + t.mode.budget ≤ 70224) :
    InFrame s (e + t.mode.budget) t.ppuAdvance := by
  have hpos := t.mode.budget_pos
  have helapsed : t.elapsed = e := h.elapsed.trans (Nat.mod_eq_of_lt (by omega))
  refine ⟨h.legal.ppuAdvance, ?elapsed, ?ifReg, fun y => ?row, ?mem⟩
  case elapsed => rw [h.legal.elapsed_ppuAdvance, h.elapsed, Nat.mod_add_mod]
  case ifReg =>
    have hrequest : 65664 ≤ e + t.mode.budget ↔ (t.mode = .hblank ∧ t.line + 1 = 144) ∨ 65664 ≤ e := by
      rcases h.legal.place with ⟨hm, hp⟩ | ⟨hm, hp⟩ | ⟨hm, hp⟩ | ⟨hm, hp⟩ <;> simp [hm] at hp ⊢ <;> omega
    rw [State.ppuAdvance_ifReg, h.ifReg]
    simp only [hrequest, ite_or]
    split <;> split <;> simp [BitVec.or_assoc]
  case row =>
    have hrender : 456 * y.val + 252 ≤ e + t.mode.budget ↔
        (t.mode = .xfer ∧ t.line = y.val) ∨ 456 * y.val + 252 ≤ e := by
      rcases h.legal.place with ⟨hm, hp⟩ | ⟨hm, hp⟩ | ⟨hm, hp⟩ | ⟨hm, hp⟩ <;> simp [hm] at hp ⊢ <;> omega
    rw [State.ppuAdvance_row, h.mem, State.scanline_congr h.mem, h.rows]
    simp only [hrender, and_or_left, ite_or]
  case mem => rw [State.ppuAdvance_mem, h.mem]

/-- The PPU step of at most a frame's cycles stays in the frame that it begins; what the modes have not used up is in
the counter. -/
theorem inFrame_ppuStep {s : State} {n : Nat} (hmode : s.mode = .oam) (hline : s.line = 0) (hcounter : s.counter = 0)
    (hn : n ≤ 70224) : ∃ e, e + (s.ppuStep n).counter = n ∧ InFrame s e (s.ppuStep n) := by
  refine ppuRun_keeps (P := fun t => ∃ e, e + t.counter = n ∧ InFrame s e t) ?turn _ ⟨0, ?sum, ?start⟩
  case turn =>
    rintro t ⟨e, hsum, hframe⟩ hdue
    exact ⟨e + t.mode.budget, by simp; omega, hframe.ppuAdvance (by omega)⟩
  case sum => simp [hcounter]
  case start => exact .start hmode hline _

/-- Settles O54: the calls are one PPU step (O53), which stays in the frame and ends below the budget of its mode; no
line ends, no row is rendered and no request is made between a mode's start and its budget. -/
theorem frameReturnsToStart : Obligations.FrameReturnsToStart := by
  intro ns s hmode hline hcounter hn
  have hbelow : s.counter < s.mode.budget := by rw [hcounter]; exact s.mode.budget_pos
  have hcalls : ns.foldl (fun u k => u.ppuStep k) s = s.ppuStep ns.sum := by
    simpa [State.ppuStep_zero hbelow] using ppuStepsAddUp ns s 0
  obtain ⟨e, hsum, hframe⟩ := inFrame_ppuStep hmode hline hcounter hn
  have hlt := s.ppuStep_counter_lt ns.sum
  have hrest := s.ppuStep_eq_with ns.sum
  simp only [hcalls]
  generalize s.ppuStep ns.sum = t at *
  generalize ns.sum = n at *
  have hplace := hframe.legal.place
  have helapsed := hframe.elapsed
  refine ⟨fun hfull => ?full, by omega, ?ifReg, fun y => ?row, hrest⟩
  case full => rcases hplace with ⟨hm, hp⟩ | ⟨hm, hp⟩ | ⟨hm, hp⟩ | ⟨hm, hp⟩ <;> simp [hm] at hp hlt ⊢ <;> omega
  case ifReg =>
    have hrequest : 65664 ≤ e ↔ 65664 ≤ n := by omega
    rw [hframe.ifReg]
    simp only [hrequest]
  case row =>
    have hrender : 456 * y.val + 252 ≤ e ↔ 456 * y.val + 252 ≤ n := by omega
    rw [hframe.rows]
    simp only [hrender]

end Sys2Proof.Machine
end

section
/-! The statement of spec/60_exceptions.md about the renderer (R216): the pixel of the rule in plain arithmetic. -/

namespace Sys2Proof.Machine

/-- A bit of a byte as a digit of its number. -/
theorem getLsbD_toNat (v : Byte) (k : Nat) : (v.getLsbD k).toNat = v.toNat / 2 ^ k % 2 :=
  Nat.toNat_testBit v.toNat k

theorem getLsbD_iff (v : Byte) (k : Nat) : v.getLsbD k = true ↔ v.toNat / 2 ^ k % 2 = 1 := by
  rw [← getLsbD_toNat]
  cases v.getLsbD k <;> decide

/-- A shade of the palette is the colour's digit, to base 4, of the palette's number (R31). -/
theorem paletteShade_toNat (bgp : Byte) (colour : Nat) :
    (paletteShade bgp colour).toNat = bgp.toNat / 4 ^ colour % 4 := by
  rw [paletteShade, BitVec.extractLsb'_toNat, Nat.shiftRight_eq_div_pow, Nat.pow_mul]

/-- The tile's address with a signed index counts from 0x9000 up and down (R216). -/
theorem tileAddress_eq (unsignedData : Bool) (idx : Byte) :
    (tileAddress unsignedData idx : Int) =
      if unsignedData = true then (0x8000 : Int) + idx.toNat * 16
      else 0x9000 + (if idx.toNat < 128 then (idx.toNat : Int) else idx.toNat - 256) * 16 := by
  have hlt := idx.isLt
  unfold tileAddress
  split
  · omega
  · split <;> omega

/-- Settles O55: the rule's pixel is the model's, number by number; and rendering is part of the one transition that the
cycles reach. -/
theorem renderLineWritesRow : Obligations.RenderLineWritesRow := by
  refine ⟨fun s ly => ⟨fun x => ?pixel, fun k hk => ?others, rfl⟩, fun s n hmode hdue hlt => ?transition⟩
  case pixel =>
    intro mem bit y xx map idx tile row b c
    rw [State.renderLine_row, if_pos rfl, State.scanline_getElem]
    have hmap : (if s.lcdc.getLsbD 3 then 0x9C00 else 0x9800) = map := if_congr (getLsbD_iff _ 3) rfl rfl
    let r : Nat := tileAddress (s.lcdc.getLsbD 4) (s.mem.get (map + y / 8 * 32 + xx / 8)) + y % 8 * 2
    have hrow : (r : Int) = row := by
      rw [Nat.cast_add, tileAddress_eq, if_congr (getLsbD_iff _ 4) rfl rfl]
      rfl
    rw [State.pixel, paletteShade_toNat, getLsbD_toNat, getLsbD_toNat, hmap]
    change mem 0xFF47 / 4 ^ (bit (mem (r + 1 : Nat)) b * 2 + bit (mem r) b) % 4 = _
    rw [Nat.cast_succ, hrow]
  case others => rw [State.renderLine_row, if_neg (fun h => hk (Fin.ext h.symm))]
  case transition =>
    have hbudget : s.mode.budget = 172 := by rw [hmode]; rfl
    rw [State.ppuStep_of_le (by omega), State.ppuAdvance_xfer (s := s.addCycles n) hmode]
    refine State.ppuStep_zero ?_
    simp [Mode.budget]
    omega

end Sys2Proof.Machine
end

section
/-! The statements of spec/60_exceptions.md about interrupts (R199, R200) and the system step (R203). -/

namespace Sys2Proof.Machine

/-! ## Which interrupt is taken -/

/-- A source waits: enabled and requested (R199). -/
theorem State.pending_getLsbD (s : State) (i : IntSource) :
    s.pending.getLsbD i.bit = (s.ie.getLsbD i.bit && s.ifReg.getLsbD i.bit) := by
  cases i <;> simp [State.pending, IntSource.bit]

theorem IntSource.forall_iff {P : IntSource → Prop} :
    (∀ j, P j) ↔ P .vblank ∧ P .lcdStat ∧ P .timer ∧ P .serial ∧ P .joypad :=
  ⟨fun h => ⟨h _, h _, h _, h _, h _⟩, fun ⟨h0, h1, h2, h3, h4⟩ j => by cases j <;> assumption⟩

/-- The source chosen is the one whose bit is set and whose lower bits are clear (R199). -/
theorem highestPriority_eq_some_iff (p : BitVec 5) (i : IntSource) :
    highestPriority p = some i ↔ p.getLsbD i.bit = true ∧ ∀ j : IntSource, j.bit < i.bit → p.getLsbD j.bit = false := by
  rw [IntSource.forall_iff]
  cases i <;> revert p <;> decide

theorem State.interruptTaken_eq_some_iff (s : State) (i : IntSource) :
    s.interruptTaken = some i ↔ s.ime = true ∧ highestPriority s.pending = some i := by
  cases h : s.ime <;> simp [State.interruptTaken, h]

/-- A core with an interrupt to take is awake: a request that wakes it is pending (R199, R210). -/
theorem State.staysIdle_of_interruptTaken {s : State} {i : IntSource} (h : s.interruptTaken = some i) (wake : Bool) :
    s.staysIdle wake = false := by
  have hpending : s.pending ≠ 0 := fun h0 => by simp [s.interruptTaken_eq_none_iff.2 (.inr h0)] at h
  rw [Bool.eq_false_iff, Ne, State.staysIdle_iff]
  rintro (⟨-, h0⟩ | ⟨-, h0, -⟩) <;> exact hpending h0

/-- A core with an interrupt to take dispatches it in its next step, in every power state (R196, R199). -/
theorem cpuStep_of_interruptTaken (wake : Bool) {s : State} {i : IntSource} (hfault : s.faultRec = none)
    (h : s.interruptTaken = some i) : cpuStep wake s = .next (s.wake.dispatchStep i) :=
  cpuStep_dispatch hfault (State.staysIdle_of_interruptTaken h wake) h

/-- Settles O48: the choice among the pending requests, and the dispatch case of the CPU step. -/
theorem dispatchPriority : Obligations.DispatchPriority := by
  refine ⟨fun s i => ?_, fun wake s i => cpuStep_of_interruptTaken wake, fun wake s r => cpuStep_faulted wake⟩
  rw [State.interruptTaken_eq_some_iff, highestPriority_eq_some_iff]
  simp only [State.pending_getLsbD, Bool.and_eq_true, and_assoc]

/-! ## Taking it -/

theorem IntSource.vector_toNat (i : IntSource) : i.vector.toNat = 0x0040 + 8 * i.bit := by
  cases i <;> rfl

/-- Clearing a source's bit leaves the other four (R200). -/
theorem clearRequest_getLsbD (v : BitVec 5) (i : IntSource) {k : Nat} (hk : k < 5) :
    (v &&& ~~~((1 : BitVec 5) <<< i.bit)).getLsbD k = (v.getLsbD k && decide (k ≠ i.bit)) := by
  have hmask : ∀ k < 5, (~~~((1 : BitVec 5) <<< i.bit)).getLsbD k = decide (k ≠ i.bit) := by cases i <;> decide
  rw [BitVec.getLsbD_and, hmask k hk]

/-- Settles O49: the dispatch step of the woken core, which pushes PC as `Push16` does and then clears the request. -/
theorem dispatchTakesInterrupt : Obligations.DispatchTakesInterrupt := by
  intro wake s i hfault htaken
  refine ⟨rfl, s.wake.memWrite (s.sp - 1) (hiByte s.pc), s.wake.push16 s.pc, s.wake.dispatchStep i,
    cpuStep_of_interruptTaken wake hfault htaken, ?cycles, ?timing, ?high,
    State.push16_wrote_low s.wake s.pc, ?sp, ?pc,
    ?ime, ?eiDelay, ?power, fun k hk => clearRequest_getLsbD _ i hk, rfl, rfl, rfl, fun r => ?regs, ?f, ?faultRec,
    ⟨?_, ?_, ?_, ?_⟩, ?opcode, ?inputs⟩
  case high => exact (State.push16_wrote_high s.wake s.pc).congr rfl rfl rfl rfl rfl rfl rfl rfl rfl rfl rfl rfl
  case pc => rw [State.dispatchStep_pc, IntSource.vector_toNat]
  case regs => cases r <;> simp [State.reg]
  all_goals simp [hfault]

/-! ## The system step -/

/-- The inputs of a step are the first of the list, or none; the rest of the list is left (R203). -/
theorem State.nextInput_of_inputs {s : State} {input : StepInput} {rest : List StepInput}
    (h : s.inputs = input :: rest ∨ (s.inputs = [] ∧ input = { irq := 0, stopWake := false } ∧ rest = [])) :
    s.nextInput = input ∧ s.inputs.tail = rest := by
  rcases h with h | ⟨h, rfl, rfl⟩ <;> simp [State.nextInput, h]

/-- The latch takes the three external requests into IF (R203). -/
theorem latchRequests_getLsbD (v irq : BitVec 5) {k : Nat} (hk : k < 5) :
    (v ||| (irq &&& 0x1C)).getLsbD k = (v.getLsbD k || (decide (2 ≤ k) && irq.getLsbD k)) := by
  have hmask : ∀ k < 5, (0x1C : BitVec 5).getLsbD k = decide (2 ≤ k) := by decide
  rw [BitVec.getLsbD_or, BitVec.getLsbD_and, hmask k hk, Bool.and_comm]

theorem State.result_of_running {s : State} (h : s.faultRec = none) : s.result = .ok s.cycles := by
  rw [State.result, h]

/-- A CPU step that returns the fault does so on a core whose record it is (R197). -/
theorem faultRec_of_cpuStep_fault {wake : Bool} {s : State} {r : FaultRec} (h : cpuStep wake s = .fault (.faulted r)) :
    s.faultRec = some r := by
  rcases cpuStep_outcome wake s with ⟨t, ht⟩ | ⟨q, hq, hfault⟩
  · simp [h] at ht
  · rw [hq]
    simpa using hfault.symm.trans h

/-- Settles O60: the state between the parts of the step is the latched one; then the CPU step's outcomes by case. -/
theorem systemStepCouplesCpuAndPpu : Obligations.SystemStepCouplesCpuAndPpu := by
  intro s input rest hinputs
  obtain ⟨rfl, rfl⟩ := State.nextInput_of_inputs hinputs
  refine ⟨s.latchInput, rfl, fun k hk => latchRequests_getLsbD _ _ hk, fun r hcpu => ?faulted,
    fun c r hcpu hc => ?faults, fun c hcpu hc => ?completes, fun r hcpu => ?refused⟩
  case faulted =>
    have hfault := faultRec_of_cpuStep_fault hcpu
    exact ⟨step_faulted hfault, State.result_of_faulted hfault⟩
  case faults =>
    rw [step_of_cpuStep hcpu, State.ppuPart_of_faulted (by simp [hc])]
    exact ⟨rfl, State.result_of_faulted hc⟩
  case completes =>
    rw [step_of_cpuStep hcpu, State.ppuPart_of_running hc, State.result_of_running (by simpa using hc),
      State.ppuStep_cycles]
    exact ⟨rfl, rfl⟩
  case refused =>
    rcases cpuStep_outcome s.nextInput.stopWake s.latchInput with ⟨t, ht⟩ | ⟨q, -, hfault⟩
    · simp [ht] at hcpu
    · simp [hfault] at hcpu

end Sys2Proof.Machine
end

section
/-! The statement of spec/70_reset_and_hazards.md (R221): the registers and fields by evaluation, the bus by region. -/

namespace Sys2Proof.Machine

/-- At reset no byte of the backing array is listed, so each reads as its reset contents (R34, R221). -/
theorem reset_mem_get (a : Word) :
    State.reset.mem.get a.toNat = if a = 0xFF40 then 0x91 else if a = 0xFF47 then 0xFC else 0x00 := by
  simp only [← BitVec.toNat_inj]
  rfl

/-- Outside the LCD registers memory is blank at reset (R221). -/
theorem reset_mem_get_blank {a : Word} (h : a.toNat < 0xFF40 ∨ 0xFF47 < a.toNat) :
    State.reset.mem.get a.toNat = 0x00 := by
  rw [reset_mem_get, if_neg, if_neg]
  · rintro rfl
    exact absurd h (by decide)
  · rintro rfl
    exact absurd h (by decide)

/-- Below the I/O registers an address reads its byte of the backing array or 0x00 (R37, R38, R40). -/
theorem State.busRead_low (s : State) {a : Word} (h : a.toNat < 0xFF00) :
    s.busRead a = s.mem.get a.toNat ∨ s.busRead a = 0x00 := by
  by_cases hrom : a.toNat < 0x8000
  · exact .inl (s.bus_rom 0 ((busTarget_rom_iff a).2 hrom)).1
  by_cases hram : a.toNat ≤ 0xDFFF
  · exact .inl (s.bus_plain 0 (busTarget_of_ram (by omega) hram)).1
  by_cases hunmapped : a.toNat ≤ 0xFDFF
  · exact .inr (s.bus_unmapped 0 (busTarget_of_unmapped (by omega) hunmapped)).1
  by_cases hoam : a.toNat ≤ 0xFE9F
  · exact .inl (s.bus_plain 0 (busTarget_of_oam (by omega) hoam)).1
  · exact .inr (s.bus_prohibited 0 (busTarget_of_prohibited (by omega) (by omega))).1

/-- High RAM is plain memory (R37). -/
theorem busTarget_of_highRam {a : Word} (hlo : 0xFF80 ≤ a.toNat) (hhi : a.toNat ≤ 0xFFFE) : busTarget a = .plain :=
  busTarget_of_plainHigh (by omega) hhi (by simp; omega)

/-- Settles O1: the fields of `State.reset` one by one, and the bus by regions of the address map. -/
theorem resetGivesSpecifiedState : Obligations.ResetGivesSpecifiedState := by
  have hflags : HasFlags State.reset true false true true := by constructor <;> decide
  refine ⟨rfl, rfl, hflags, rfl, rfl, rfl, rfl, rfl, rfl, rfl, rfl, rfl, rfl, rfl, rfl, rfl, rfl, rfl, rfl, rfl, rfl,
    rfl, fun a ha => ⟨reset_mem_get_blank (by omega), ?lowBus⟩, reset_mem_get, rfl, rfl, rfl, rfl, rfl, rfl, rfl, rfl,
    fun a ha => (State.bus_periph 0 _ ha).1, fun a hlo hhi => ?highRam, rfl, rfl, rfl, fun y x => ?blank, rfl, rfl,
    fun _ => rfl⟩
  case lowBus => exact (State.reset.busRead_low ha).elim (fun h => h.trans (reset_mem_get_blank (by omega))) id
  case highRam =>
    exact (State.reset.bus_plain 0 (busTarget_of_highRam hlo hhi)).1.trans (reset_mem_get_blank (by omega))
  case blank => simp [State.reset, State.resetWith]

end Sys2Proof.Machine
end
